-- ==== Sys2Proof/Word.lean ====
section
/-! DEFINITION. The word types of the 4120: bytes, 20-bit memory addresses (HA19 to HA0, MA19 to MA0),
and the 16- and 32-bit fields of its records. -/

namespace Sys2Proof

/-- One byte of the guarded memory, of HD7 to HD0 or of MD7 to MD0. -/
abbrev Byte := BitVec 8

/-- An address on HA19 to HA0 or MA19 to MA0: 0x00000 to 0xFFFFF. -/
abbrev Addr := BitVec 20

/-- A two-byte field (R186). -/
abbrev Half := BitVec 16

/-- A four-byte field (R186). -/
abbrev Long := BitVec 32

end Sys2Proof
end

