-- ==== Sys2Proof/Syntax.lean ====
section
/-! DEFINITION. The commands of the 4120: one constructor for each row of spec/opcode_table.json. -/

namespace Sys2Proof

/-- The levels on the command lines as a strobe presents them: the code on CCODE2 to CCODE0, and whether
CSTRB is high (Table 7-1, Table 7-2). -/
structure CommandLines where
  code : BitVec 3
  cstrbHigh : Bool
  deriving DecidableEq, Repr

/-- What may happen to the part, one constructor per row of the table of operations and events. The
first eleven rows and the eight command rows are what the world outside does or what follows from it;
the last thirteen are the ends of the part's own pieces of work, each of which is the end of the
memory cycle in flight (R112) or the start of a control-unit sequence (R114). -/
inductive Instr where
  /-- RESET_ASSERT (R170): RESET# or the power-on circuit starts a reset. -/
  | resetAssert
  /-- RESET_END (R170): the reset is released; the levels of MSZ2 to MSZ0, of PWARN# (true is high,
  the warning negated) and of CSTRB are sampled. -/
  | resetEnd (msz : BitVec 3) (pwarnHigh : Bool) (cstrbHigh : Bool)
  /-- POWER_WARNING_ASSERT (R183): PWARN# goes low. -/
  | powerWarningAssert
  /-- POWER_WARNING_NEGATE (R183): PWARN# goes high. -/
  | powerWarningNegate
  /-- HOST_READ (R69): the host begins a read cycle at an address. -/
  | hostRead (addr : Addr)
  /-- HOST_WRITE (R66): the host begins a write cycle at an address with a byte. -/
  | hostWrite (addr : Addr) (data : Byte)
  /-- HOST_CYCLE_RELEASE (R68): the host ends the cycle on the bus. -/
  | hostCycleRelease
  /-- HOLD_EXPIRED (R85): the hold timer reaches the hold limit. -/
  | holdExpired
  /-- STROBE_TAKEN (R124): CSTRB is seen at a level with a code on CCODE2 to CCODE0; the strobe is the
  rising edge, a high level seen after a low one (Table 7-2). With a low level the row is a fall. -/
  | strobeTaken (lines : CommandLines)
  /-- STROBE_IGNORED (R125): CSTRB is seen high while the busy flag is set; the strobe is the rising edge. -/
  | strobeIgnored
  /-- COMMAND_EXECUTION_BEGIN (R127): a command that waited for the host path begins execution. -/
  | commandExecutionBegin
  /-- ACKNOWLEDGE (R130). -/
  | acknowledge
  /-- BEGIN (R28). -/
  | beginFrame
  /-- COMMIT (R132). -/
  | commit
  /-- ABORT (R133). -/
  | abort
  /-- UNWIND (R134). -/
  | unwind
  /-- SETUP (R158). -/
  | setup
  /-- ADOPT (R161). -/
  | adopt
  /-- DISCARD (R42). -/
  | discard
  /-- MEMORY_CYCLE_COMPLETE (R112): the memory cycle in flight ends. -/
  | memoryCycleComplete
  /-- CONTROL_SEQUENCE_START (R114): the control unit begins its next waiting sequence. -/
  | controlSequenceStart
  /-- APPEND_COMPLETE (R18): the append's host byte write ends. -/
  | appendComplete
  /-- RESTORE_RECORD_READ (R93): the last read of the record at the cursor ends. -/
  | restoreRecordRead
  /-- RESTORE_STEP_COMPLETE (R96): the last payload write of a restore step ends. -/
  | restoreStepComplete
  /-- VOID_MARK_WRITTEN (R23): the write of the VOID tag ends. -/
  | voidMarkWritten
  /-- HEADER_SLOTS_READ (R15): the last read of the two header slots ends. -/
  | headerSlotsRead
  /-- EPOCH_ADVANCE_COMPLETE (R14): the write of a header's last byte ends. -/
  | epochAdvanceComplete
  /-- CONFIG_SLOT_READ_COMPLETE (R162): the last read of a configuration slot ends. -/
  | configSlotReadComplete
  /-- CONFIG_SLOT_WRITE_COMPLETE (R165): the last write of a configuration slot ends. -/
  | configSlotWriteComplete
  /-- SCAN_END (R175): the read that ends the chain scan ends. -/
  | scanEnd
  /-- STARTUP_END (R180): the last write of the start-up final update ends. -/
  | startupEnd
  /-- STATUS_UPDATE_COMPLETE (R128): the last write of a result record ends. -/
  | statusUpdateComplete
  deriving DecidableEq, Repr

end Sys2Proof
end

