-- ==== Sys2Proof/Config.lean ====
section
/-! DEFINITION. The free values: what the manual leaves open while the part goes on. Each is applied to
the counter `State.free`, which the step that uses it advances, and has no value a proof can see. -/

namespace Sys2Proof

/-- Whether the byte write in flight at a reset reaches the memory (R7, R111: "the old value or the
new one"). Assumption 5. -/
opaque Config.tornWriteLands : Nat → Bool

/-- What HD7 to HD0 show when a read ends with a fault (R68: "no defined data"). Assumption 6. -/
opaque Config.undefinedByte : Nat → Byte

/-- Whether the host port's report is taken before the power monitor's when an assertion of the power
warning makes both raise an event at once (R152: "Either may be taken first"). Assumption 7. -/
opaque Config.hostReportFirst : Nat → Bool

end Sys2Proof
end

