-- ==== Sys2Proof/Machine/State.lean ====
section
/-! DEFINITION. The state of the 4120, block by block as Table 1-1 lists the blocks, its values after
reset, and one setter for each block. -/

namespace Sys2Proof.Machine

/-! ### Names of the manual -/

/-- The eight commands (Table 7-1). -/
inductive Command where
  | acknowledge | begin | commit | abort | unwind | setup | adopt | discard
  deriving DecidableEq, Repr

/-- The phases of STARTUP (R171). -/
inductive Phase where
  | loading | scanning | restoring | closing
  deriving DecidableEq, Repr

/-- The operating states (Table 8-3). -/
inductive OpState where
  | ready | setup | committing | aborting | faulted | unconfigured
  | startup (phase : Phase)
  deriving DecidableEq, Repr

/-- The states in which start-up can end (R171). -/
inductive EndState where
  | ready | unconfigured | faulted
  deriving DecidableEq, Repr

/-- The state SETUP was entered from (R158). -/
inductive SetupOrigin where
  | ready | unconfigured
  deriving DecidableEq, Repr

/-- The modes of a window (Table 4-1): OPEN, FRAMED, FROZEN. -/
inductive WindowMode where
  | openMode | framed | frozen
  deriving DecidableEq, Repr

/-- The class of a host address (R63). A CONTROL address in the staged slot is marked; a window's
class carries the granule number and which window it is. -/
inductive AddrClass where
  | unguarded
  | control (staged : Bool)
  | journal
  | window (mode : WindowMode) (granule : Nat) (index : Nat)
  deriving DecidableEq, Repr

/-- Why a host cycle is held (R65). -/
inductive HoldCause where
  | memory | append | commit | abort | pending | spill
  deriving DecidableEq, Repr

/-- The reasons of Table 4-4 for a faulted write. -/
inductive WriteReason where
  | control | journal | frozen | noFrame | faulted | power | journalFull
  deriving DecidableEq, Repr

/-- Why an append in flight is to be abandoned (R19). -/
inductive AbandonCause where
  | power | expiry
  deriving DecidableEq, Repr

/-- The judgement of a host cycle (R66); `startFault` is the fault of R79, which has no reason. -/
inductive Judgement where
  | pass
  | hold (cause : HoldCause)
  | fault (reason : WriteReason)
  | startFault
  | append
  deriving DecidableEq, Repr

/-- The checks a record can fail in a restore (Table 5-4). -/
inductive RestoreReason where
  | tag | index | depth | check | range
  deriving DecidableEq, Repr

/-- The validation reasons, in the order of Table 9-4. -/
inductive ConfigReason where
  | tag | check | granule | clock | hold | yield | journal | count | unused | range | overlap
  | journalOverlap | mode | pad
  deriving DecidableEq, Repr

/-- The start-up outcomes (Table 11-9). -/
inductive StartOutcome where
  | clean | restored | noConfig | fault
  deriving DecidableEq, Repr

/-- The outcomes of a command (Table 7-4). -/
inductive Result where
  | done | refusedState | depthLimit | noFrame | shortFrame | configInvalid | restoreFault
  | powerWarning | queueEmpty
  deriving DecidableEq, Repr

/-- The detail of a command's outcome (Table 7-4). -/
inductive ResultDetail where
  | number (value : Nat)
  | config (reason : ConfigReason)
  | restore (reason : RestoreReason)
  deriving DecidableEq, Repr

/-- The event kinds (Table 8-5). -/
inductive EventKind where
  | writeRefused | journalFull | holdExpired | trackerSpill | restoreFault | startComplete
  | powerWarning
  deriving DecidableEq, Repr

/-- The detail of an event (Table 8-4). -/
inductive EventDetail where
  | none
  | refusal (reason : WriteReason)
  | depth (value : Nat)
  | restore (reason : RestoreReason)
  | start (outcome : StartOutcome)
  deriving DecidableEq, Repr

/-- An entry of the event queue (Table 8-4). -/
structure EventEntry where
  kind     : EventKind
  detail   : EventDetail
  argument : Option Nat
  repeats  : Nat
  deriving DecidableEq, Repr

/-- The two header slots (R11). -/
inductive HeaderSlot where
  | a | b
  deriving DecidableEq, Repr

/-- The three configuration slots (Table 11-1). -/
inductive ConfigSlot where
  | staged | primary | secondary
  deriving DecidableEq, Repr

/-- The kinds of status update (Table 8-2). -/
inductive UpdateKind where
  | command | raise | progress | final
  deriving DecidableEq, Repr

/-- The three claimants of the memory port (R113). -/
inductive Claimant where
  | host | control | engine
  deriving DecidableEq, Repr

/-- A window of a configuration: base granule, length in granules, mode (R62). -/
structure Window where
  base   : Nat
  length : Nat
  mode   : WindowMode
  deriving DecidableEq, Repr

/-- The field values of a valid configuration record (Table 11-2). -/
structure Configuration where
  granule       : Nat
  clock         : Nat
  holdLimit     : Nat
  yieldLimit    : Nat
  journalBase   : Nat
  journalLength : Nat
  windows       : List Window
  serial        : Half
  deriving DecidableEq, Repr

/-- The geometry and serial a header carries (R11); base and length in KiB. -/
structure Geometry where
  base    : Nat
  length  : Nat
  granule : Nat
  serial  : Half
  deriving DecidableEq, Repr

/-! ### Host port (R65, R84) -/

/-- The host cycle in progress. `cause` is none while a passing cycle performs its memory cycle. -/
structure HostCycle where
  addr    : Addr
  isWrite : Bool
  data    : Byte
  cls     : AddrClass
  cause   : Option HoldCause
  deriving DecidableEq, Repr

/-- The hold timer while it runs: microseconds counted, CLK cycles since the last count, and the limit
and clock frequency in MHz the hold started under (R83). A limit of 0 does not expire. -/
structure HoldTimer where
  count : Nat
  phase : Nat
  limit : Nat
  clock : Nat
  deriving DecidableEq, Repr

/-- The host port: the cycle in progress, the hold timer (running exactly while HWAIT is asserted,
R84), the level of HFAULT (true is asserted), and the byte last driven on HD7 to HD0 (R68). -/
structure HostPort where
  cycle  : Option HostCycle
  hold   : Option HoldTimer
  hfault : Bool
  data   : Byte
  deriving DecidableEq, Repr

/-! ### Window decoder (Table 4-2) -/

/-- What the decoder takes from a configuration: granule size, windows, journal bounds in KiB. -/
structure WindowMap where
  granule       : Nat
  windows       : List Window
  journalBase   : Nat
  journalLength : Nat
  deriving DecidableEq, Repr

/-- The window decoder. `control` is the first address of the control area; the staged slot is its
first 64 bytes. -/
structure Decoder where
  control : Option Nat
  map     : Option WindowMap
  deriving DecidableEq, Repr

/-! ### Transaction controller (R24, R126, R171) -/

/-- An entry of the frame stack (Table 2-1). -/
structure Frame where
  start   : Nat
  short   : Bool
  spill   : Bool
  opening : Half
  deriving DecidableEq, Repr

/-- A command's outcome with what is captured when its execution ends (Table 7-3). -/
structure CommandResult where
  command : Command
  seq     : Half
  result  : Result
  detail  : ResultDetail
  depth   : Nat
  epoch   : Long
  n       : Nat
  deriving DecidableEq, Repr

/-- How far the command in flight has come: waiting for the host path (R127), in execution (R126), or
ended with its update not yet written (R128). `idle` when no command is in flight. -/
inductive Stage where
  | idle | waiting | executing
  | ended (result : CommandResult)
  deriving DecidableEq, Repr

/-- The transaction controller. `frames` is the frame stack, top frame first, frame 1 last; it holds
exactly depth entries (R24), so its length is the depth. -/
structure Controller where
  op            : OpState
  frames        : List Frame
  stage         : Stage
  found         : Nat
  headerWritten : Bool
  endState      : Option EndState
  deriving DecidableEq, Repr

/-! ### Journal unit (Table 1-4) -/

/-- An append in flight (R16, R17): the host address and byte, the depth and granule, the reserved
position, the memory cycles done, and the cause taken first if it is to be abandoned (R19). -/
structure Append where
  addr     : Addr
  data     : Byte
  depth    : Nat
  granule  : Nat
  index    : Nat
  progress : Nat
  abandon  : Option AbandonCause
  deriving DecidableEq, Repr

/-- The journal unit. -/
structure Journal where
  n        : Nat
  capacity : Nat
  epoch    : Long
  slot     : Option HeaderSlot
  geometry : Option Geometry
  link     : Half
  payload  : List Byte
  append   : Option Append
  deriving DecidableEq, Repr

/-! ### Granule tracker (Table 3-1) -/

/-- An entry of the granule tracker. -/
structure TrackerEntry where
  granule : Nat
  depth   : Nat
  index   : Nat
  pending : Bool
  deriving DecidableEq, Repr

/-! ### Restore engine (Table 5-1) -/

/-- The run states of the restore engine (R90). -/
inductive RunState where
  | idle | running | suspended | stopped
  deriving DecidableEq, Repr

/-- The target of a run: a depth, or ALL (Table 5-1). -/
inductive Target where
  | depth (value : Nat)
  | all
  deriving DecidableEq, Repr

/-- The restore engine; `reads` and `writes` together are the buffer progress. -/
structure Engine where
  run      : RunState
  cursor   : Option Nat
  stop     : Nat
  target   : Target
  count    : Nat
  reason   : Option RestoreReason
  buffer   : List Byte
  reads    : Nat
  writes   : Nat
  lastLink : Half
  deriving DecidableEq, Repr

/-! ### Memory port (Table 6-1) -/

/-- A memory cycle with its claimant, address, direction and, for a write, its byte. -/
structure MemCycle where
  claimant : Claimant
  addr     : Addr
  isWrite  : Bool
  data     : Byte
  deriving DecidableEq, Repr

/-- The memory port. A standing claim is for the next memory cycle of the work its claimant has in
hand (R113), so a claim is held as a flag. `strap` is the strapped size in KiB (R120). -/
structure Port where
  inFlight     : Option MemCycle
  claimHost    : Bool
  claimControl : Bool
  claimEngine  : Bool
  yieldControl : Nat
  yieldEngine  : Nat
  yieldLimit   : Nat
  strap        : Nat
  deriving DecidableEq, Repr

/-! ### Control unit (R114) -/

/-- A sequence of the control unit (R114). A header write carries the slot, epoch and geometry it
writes (R13, R14). -/
inductive Sequence where
  | headerWrite (slot : HeaderSlot) (epoch : Long) (geometry : Geometry)
  | headerRead
  | voidMark
  | configRead (slot : ConfigSlot)
  | configWrite (slot : ConfigSlot)
  | scan
  | update (kind : UpdateKind)
  deriving DecidableEq, Repr

/-- The control unit: the sequence in progress with its memory cycles done and bytes read, the
sequences that wait, and the position and link of the start-up scan (R175). -/
structure ControlUnit where
  current  : Option Sequence
  done     : Nat
  buffer   : List Byte
  waiting  : List Sequence
  scanPos  : Nat
  scanLink : Half
  deriving DecidableEq, Repr

/-! ### Command port (Table 7-2) -/

/-- The command port; `strobe` is the last level seen on CSTRB. -/
structure CommandPort where
  busy     : Bool
  overrun  : Bool
  seq      : Half
  inFlight : Option (Command × Half)
  strobe   : Bool
  deriving DecidableEq, Repr

/-! ### Status unit (Table 8-1) -/

/-- The status unit. The last seven fields belong to the update in progress (R145, R146): its snapshot
reads (4 or 0), its number, its captured body, event area and result record, and whether its
live-state record and its event-area write have begun. `snapshot` is none while unknown. -/
structure Status where
  queue        : List EventEntry
  dropped      : Nat
  refused      : Nat
  expired      : Nat
  startFaults  : Nat
  snapshot     : Option Long
  owed         : Bool
  attention    : Bool
  snapReads    : Nat
  number       : Long
  body         : List Byte
  area         : List Byte
  record       : List Byte
  liveBegun    : Bool
  areaBegun    : Bool
  deriving DecidableEq, Repr

/-! ### Configuration unit (Table 9-1) -/

/-- The configuration unit. `readWaits` marks step 1 of an ADOPT that waits for a staged-slot write
judged to pass before it (R161). -/
structure ConfigUnit where
  loaded    : Option Configuration
  origin    : Option SetupOrigin
  adopting  : Bool
  buffer    : List Byte
  progress  : Nat
  readWaits : Bool
  deriving DecidableEq, Repr

/-! ### The whole part -/

/-- The guarded memory: the bytes that differ from what an unlisted address reads as, by rising
address. -/
abbrev Memory := List Host.Cell

/-- The state of the 4120 with the memory behind it. `warning` is the power monitor's condition (R183),
`resetting` says that a reset lasts (R170), `free` counts the free values used, and `pending` is the
queue of commands that wait, first in, first out. -/
structure State where
  mem       : Memory
  host      : HostPort
  decoder   : Decoder
  txn       : Controller
  journal   : Journal
  tracker   : List TrackerEntry
  engine    : Engine
  port      : Port
  control   : ControlUnit
  command   : CommandPort
  status    : Status
  config    : ConfigUnit
  warning   : Bool
  resetting : Bool
  free      : Nat
  pending   : List Instr
  deriving DecidableEq, Repr

/-- No row of the table stops the machine: the manual reports every fault of the 4120 in its own state
(a bus fault on HFAULT, an event, an outcome), so no constructor is needed. -/
inductive Fault where
  deriving DecidableEq, Repr

/-- Why a row is refused. -/
inductive Refusal where
  /-- Raised by `exec` alone, for a row that has no meaning yet; none is left. Safe. -/
  | notModelled (mnemonic : String)
  deriving DecidableEq, Repr

/-- The values after reset (Table 10-1), while the reset lasts: every item of Tables 1-4, 4-2, 5-1,
6-1, 7-2, 8-1 and 9-1 at its last column, the tracker and the frame stack empty, the memory with
nothing listed. The items sampled when the reset ends (strapped size, CSTRB level, power warning) and
the buffers with no defined content hold the values of assumption 2. -/
def State.reset : State where
  mem := []
  host := { cycle := none, hold := none, hfault := false, data := 0 }
  decoder := { control := none, map := none }
  txn := { op := .startup .loading, frames := [], stage := .idle, found := 0, headerWritten := false,
           endState := none }
  journal := { n := 0, capacity := 0, epoch := 0, slot := none, geometry := none, link := 0,
               payload := [], append := none }
  tracker := []
  engine := { run := .idle, cursor := none, stop := 0, target := .all, count := 0, reason := none,
              buffer := [], reads := 0, writes := 0, lastLink := 0 }
  port := { inFlight := none, claimHost := false, claimControl := false, claimEngine := false,
            yieldControl := 0, yieldEngine := 0, yieldLimit := 8, strap := 64 }
  control := { current := none, done := 0, buffer := [], waiting := [], scanPos := 0, scanLink := 0 }
  command := { busy := true, overrun := false, seq := 0, inFlight := none, strobe := false }
  status := { queue := [], dropped := 0, refused := 0, expired := 0, startFaults := 0,
              snapshot := none, owed := false, attention := false, snapReads := 0, number := 0,
              body := [], area := [], record := [], liveBegun := false, areaBegun := false }
  config := { loaded := none, origin := none, adopting := false, buffer := [], progress := 0,
              readWaits := false }
  warning := false
  resetting := true
  free := 0
  pending := []

/-! ### Setters, one per block -/

/-- The state with another value for the guarded memory. -/
def State.setMem (s : State) (x : Memory) : State := { s with mem := x }

/-- The state with another value for the host port. -/
def State.setHost (s : State) (x : HostPort) : State := { s with host := x }

/-- The state with another value for the window decoder. -/
def State.setDecoder (s : State) (x : Decoder) : State := { s with decoder := x }

/-- The state with another value for the transaction controller. -/
def State.setTxn (s : State) (x : Controller) : State := { s with txn := x }

/-- The state with another value for the journal unit. -/
def State.setJournal (s : State) (x : Journal) : State := { s with journal := x }

/-- The state with another value for the granule tracker. -/
def State.setTracker (s : State) (x : List TrackerEntry) : State := { s with tracker := x }

/-- The state with another value for the restore engine. -/
def State.setEngine (s : State) (x : Engine) : State := { s with engine := x }

/-- The state with another value for the memory port. -/
def State.setPort (s : State) (x : Port) : State := { s with port := x }

/-- The state with another value for the control unit. -/
def State.setControl (s : State) (x : ControlUnit) : State := { s with control := x }

/-- The state with another value for the command port. -/
def State.setCommand (s : State) (x : CommandPort) : State := { s with command := x }

/-- The state with another value for the status unit. -/
def State.setStatus (s : State) (x : Status) : State := { s with status := x }

/-- The state with another value for the configuration unit. -/
def State.setConfig (s : State) (x : ConfigUnit) : State := { s with config := x }

/-- The state with another value for the power-warning condition. -/
def State.setWarning (s : State) (x : Bool) : State := { s with warning := x }

/-- The state with another value for the reset in force. -/
def State.setResetting (s : State) (x : Bool) : State := { s with resetting := x }

/-- The state with another value for the free-value counter. -/
def State.setFree (s : State) (x : Nat) : State := { s with free := x }

/-- The state with another value for the command queue. -/
def State.setPending (s : State) (x : List Instr) : State := { s with pending := x }

end Sys2Proof.Machine
end

