-- ==== Sys2Proof/Machine/Formats.lean ====
section
/-! DEFINITION. Byte order, check codes, record layouts and encodings (Chapter 11), with the judgements
that read only a record's bytes: header validity (R11), the choice of the current header (R12), and
the validation of a configuration record (R162). -/

namespace Sys2Proof.Machine

/-! ### Fields (R186) -/

/-- The byte at an offset; 0 beyond the end. -/
def byteAt (l : List Byte) (i : Nat) : Byte := l.getD i 0

/-- The two-byte field at an offset, least significant byte first (R186). -/
def halfAt (l : List Byte) (i : Nat) : Half := byteAt l (i + 1) ++ byteAt l i

/-- The four-byte field at an offset, least significant byte first (R186). -/
def longAt (l : List Byte) (i : Nat) : Long := halfAt l (i + 2) ++ halfAt l i

/-- A two-byte field as written (R186). -/
def halfBytes (h : Half) : List Byte := [h.extractLsb' 0 8, h.extractLsb' 8 8]

/-- A four-byte field as written (R186). -/
def longBytes (w : Long) : List Byte :=
  [w.extractLsb' 0 8, w.extractLsb' 8 8, w.extractLsb' 16 8, w.extractLsb' 24 8]

/-- A number as one byte of a record. -/
def byteOf (n : Nat) : Byte := BitVec.ofNat 8 n

/-- A number as a two-byte field of a record. -/
def halfOf (n : Nat) : List Byte := halfBytes (BitVec.ofNat 16 n)

/-- A flag as a byte: 1 set, 0 clear. -/
def flagByte (b : Bool) : Byte := if b then 1 else 0

/-- `n` zero bytes. -/
def zeros (n : Nat) : List Byte := List.replicate n 0

/-! ### Check codes (R187) -/

/-- One data bit of the check code: shift toward the most significant end, and XOR 0x1021 if the bit
shifted out differs from the data bit (R187). -/
def crcBit (r : Half) (d : Bool) : Half :=
  if r.msb != d then (r <<< 1) ^^^ 0x1021#16 else r <<< 1

/-- One byte of the check code, from its most significant bit (R187). -/
def crcByte (r : Half) (b : Byte) : Half :=
  [7, 6, 5, 4, 3, 2, 1, 0].foldl (fun acc i => crcBit acc (b.getLsbD i)) r

/-- The check code of some bytes from an initial value (R187). -/
def crc (init : Half) (bytes : List Byte) : Half := bytes.foldl crcByte init

/-- The low 16 bits of an epoch: the link of position 0 (Table 1-2). -/
def epochLow (e : Long) : Half := e.extractLsb' 0 16

/-- The epoch seed: the low half of the epoch XORed with its high half (R5). -/
def epochSeed (e : Long) : Half := e.extractLsb' 0 16 ^^^ e.extractLsb' 16 16

/-- The successor of an epoch (R10). -/
def epochSucc (e : Long) : Long := if e = 0xFFFFFFFF#32 then 1 else e + 1

/-! ### The journal record (R2, R3, R4, Table 11-5) -/

/-- The RECORD tag. -/
def recordTag : Byte := 0xA5

/-- The VOID tag. -/
def voidTag : Byte := 0x5A

/-- The size of a record: G + 10 (R2). -/
def recordSize (g : Nat) : Nat := g + 10

/-- The capacity C of a geometry (R2). -/
def capacityOf (g : Geometry) : Nat := g.length * 1024 / recordSize g.granule

/-- The first address of position `p` (R3). -/
def positionAddr (g : Geometry) (p : Nat) : Nat := g.base * 1024 + p * recordSize g.granule

/-- The fields of a record from its tag to its last payload byte. -/
def recordBody (depth granule index : Nat) (link : Half) (payload : List Byte) : List Byte :=
  recordTag :: byteOf depth :: (halfOf granule ++ halfOf index ++ halfBytes link ++ payload)

/-- A record as an append writes it, its check code seeded by the epoch (R4, R5). -/
def recordBytes (epoch : Long) (depth granule index : Nat) (link : Half) (payload : List Byte) :
    List Byte :=
  let body := recordBody depth granule index link payload
  body ++ halfBytes (crc (epochSeed epoch) body)

/-- The stored check code of a record with payload size `g`. -/
def recordCheck (g : Nat) (rec : List Byte) : Half := halfAt rec (g + 8)

/-- A record verifies under an epoch (R5). -/
def recordVerifies (epoch : Long) (g : Nat) (rec : List Byte) : Bool :=
  recordCheck g rec == crc (epochSeed epoch) (rec.take (g + 8))

/-! ### The header slot (R11, R12, Table 11-4) -/

/-- The HEADER constant. -/
def headerTag : Half := 0xE247

/-- A header as it is written (R13, R190). -/
def headerBytes (epoch : Long) (g : Geometry) : List Byte :=
  let body := halfBytes headerTag ++ longBytes epoch ++ halfOf g.base ++ halfOf g.length
    ++ [byteOf g.granule, 0] ++ halfBytes g.serial
  body ++ halfBytes (crc 0xFFFF body)

/-- What a valid header slot holds. -/
structure Header where
  epoch    : Long
  geometry : Geometry
  deriving DecidableEq, Repr

/-- A granule code names a granule size (R11, R162). -/
def granuleCode (g : Nat) : Bool := g == 16 || g == 32 || g == 64

/-- The geometry fields of a header's bytes (R190). -/
def headerGeometry (l : List Byte) : Geometry :=
  { base := (halfAt l 6).toNat, length := (halfAt l 8).toNat, granule := (byteAt l 10).toNat,
    serial := halfAt l 12 }

/-- The validity of a header slot's 16 bytes against the strapped size in KiB (R11). -/
def headerValid (strap : Nat) (l : List Byte) : Bool :=
  let g := headerGeometry l
  halfAt l 0 == headerTag && longAt l 2 != 0 && granuleCode g.granule && byteAt l 11 == 0
    && (1 ≤ g.length && g.length ≤ 256) && g.base + g.length ≤ strap - 1
    && halfAt l 14 == crc 0xFFFF (l.take 14)

/-- The header a slot holds, if the slot is valid; an invalid slot is read as no header (R11). -/
def readHeader (strap : Nat) (l : List Byte) : Option Header :=
  if headerValid strap l then some { epoch := longAt l 2, geometry := headerGeometry l } else none

/-- The choice of the current header slot (R12). -/
def chooseHeader : Option Header → Option Header → Option (HeaderSlot × Header)
  | some a, some b =>
    if b.epoch = epochSucc a.epoch then some (.b, b)
    else if a.epoch = epochSucc b.epoch then some (.a, a)
    else if a.epoch < b.epoch then some (.b, b)
    else some (.a, a)
  | some a, none => some (.a, a)
  | none, some b => some (.b, b)
  | none, none => none

/-- The other header slot. -/
def HeaderSlot.other : HeaderSlot → HeaderSlot
  | .a => .b
  | .b => .a

/-! ### The configuration record (R162, Tables 11-2 and 11-3) -/

/-- The CONFIG constant. -/
def configTag : Half := 0xC4F1

/-- The six bytes of window entry `i`. -/
def windowEntry (rec : List Byte) (i : Nat) : List Byte := (rec.drop (0x0C + 6 * i)).take 6

/-- The mode a mode byte names, if any (Table 11-3). -/
def windowMode? (b : Byte) : Option WindowMode :=
  if b = 1 then some .openMode else if b = 2 then some .framed else if b = 3 then some .frozen
  else none

/-- A window entry's base, length and mode; a byte that names no mode reads as FROZEN, which validation
never lets into force (check 13). -/
def readWindow (e : List Byte) : Window :=
  { base := (halfAt e 0).toNat, length := (halfAt e 2).toNat,
    mode := (windowMode? (byteAt e 4)).getD .frozen }

/-- The used window entries. -/
def usedEntries (rec : List Byte) : List (List Byte) :=
  (List.range (byteAt rec 0x0B).toNat).map (windowEntry rec)

/-- The field values of a configuration record (R189). -/
def readConfig (rec : List Byte) : Configuration :=
  { granule := (byteAt rec 2).toNat
    clock := (byteAt rec 3).toNat
    holdLimit := (halfAt rec 4).toNat
    yieldLimit := (byteAt rec 6).toNat
    journalBase := (halfAt rec 7).toNat
    journalLength := (halfAt rec 9).toNat
    windows := (usedEntries rec).map readWindow
    serial := halfAt rec 0x3C }

/-- The base of the control area for a strapped size in KiB (R121). -/
def controlBase (strap : Nat) : Nat := strap * 1024 - 512

/-- Two windows share a granule (check 11). -/
def windowsOverlap (w v : Window) : Bool :=
  decide (w.base < v.base + v.length) && decide (v.base < w.base + w.length)

/-- Some two of the windows share a granule. -/
def anyOverlap : List Window → Bool
  | [] => false
  | w :: ws => ws.any (windowsOverlap w) || anyOverlap ws

/-- A window shares a byte with the journal region (check 12). -/
def journalOverlaps (c : Configuration) (w : Window) : Bool :=
  decide (w.base * c.granule < (c.journalBase + c.journalLength) * 1024)
    && decide (c.journalBase * 1024 < (w.base + w.length) * c.granule)

/-- The checks of Table 9-4 in their order, each with whether it passes and its reason (R162). -/
def configChecks (strap : Nat) (rec : List Byte) : List (Bool × ConfigReason) :=
  let c := readConfig rec
  let count := (byteAt rec 0x0B).toNat
  [ (halfAt rec 0 == configTag, .tag),
    (halfAt rec 0x3E == crc 0xFFFF (rec.take 62), .check),
    (granuleCode c.granule, .granule),
    (decide (1 ≤ c.clock) && decide (c.clock ≤ 100), .clock),
    (decide (c.holdLimit ≤ 60000), .hold),
    (decide (1 ≤ c.yieldLimit), .yield),
    (decide (1 ≤ c.journalLength) && decide (c.journalLength ≤ 256)
      && decide (c.journalBase + c.journalLength ≤ strap - 1), .journal),
    (decide (count ≤ 8), .count),
    ((List.range 8).all (fun i => decide (i < count) || windowEntry rec i == zeros 6), .unused),
    (c.windows.all (fun w => decide (1 ≤ w.length)
      && decide ((w.base + w.length) * c.granule ≤ controlBase strap)), .range),
    (!anyOverlap c.windows, .overlap),
    (!c.windows.any (journalOverlaps c), .journalOverlap),
    ((usedEntries rec).all (fun e => (windowMode? (byteAt e 4)).isSome), .mode),
    ((usedEntries rec).all (fun e => byteAt e 5 == 0), .pad) ]

/-- The validation reason of a record, or none when every check passes (R162). -/
def validate (strap : Nat) (rec : List Byte) : Option ConfigReason :=
  ((configChecks strap rec).find? (fun c => !c.1)).map (·.2)

/-- The geometry and serial a configuration gives a new header (R14). -/
def configGeometry (c : Configuration) : Geometry :=
  { base := c.journalBase, length := c.journalLength, granule := c.granule, serial := c.serial }

/-! ### Encodings (Tables 7-1, 11-8 to 11-13) -/

/-- The command a code names (Table 7-1). -/
def commandOf (code : BitVec 3) : Command :=
  match code.toNat with
  | 0 => .acknowledge
  | 1 => .begin
  | 2 => .commit
  | 3 => .abort
  | 4 => .unwind
  | 5 => .setup
  | 6 => .adopt
  | _ => .discard

/-- The code of a command (Table 7-1). -/
def Command.code : Command → Byte
  | .acknowledge => 0 | .begin => 1 | .commit => 2 | .abort => 3
  | .unwind => 4 | .setup => 5 | .adopt => 6 | .discard => 7

/-- The code of an outcome (Table 11-8). -/
def Result.code : Result → Byte
  | .done => 0 | .refusedState => 1 | .depthLimit => 2 | .noFrame => 3 | .shortFrame => 4
  | .configInvalid => 5 | .restoreFault => 6 | .powerWarning => 7 | .queueEmpty => 8

/-- The code of a refusal reason (Table 11-9); JOURNAL_FULL has none and is never a detail. -/
def WriteReason.code : WriteReason → Half
  | .control => 0x01 | .journal => 0x02 | .frozen => 0x03 | .noFrame => 0x04 | .faulted => 0x05
  | .power => 0x06 | .journalFull => 0

/-- The code of a restore reason (Table 11-9). -/
def RestoreReason.code : RestoreReason → Half
  | .tag => 0x11 | .index => 0x12 | .depth => 0x13 | .check => 0x14 | .range => 0x15

/-- The code of a validation reason: 0x20 plus its check number (Table 11-9). -/
def ConfigReason.code : ConfigReason → Half
  | .tag => 0x21 | .check => 0x22 | .granule => 0x23 | .clock => 0x24 | .hold => 0x25
  | .yield => 0x26 | .journal => 0x27 | .count => 0x28 | .unused => 0x29 | .range => 0x2A
  | .overlap => 0x2B | .journalOverlap => 0x2C | .mode => 0x2D | .pad => 0x2E

/-- The code of a start-up outcome (Table 11-9). -/
def StartOutcome.code : StartOutcome → Half
  | .clean => 0x31 | .restored => 0x32 | .noConfig => 0x33 | .fault => 0x34

/-- The code of an event kind (Table 11-13). -/
def EventKind.code : EventKind → Byte
  | .writeRefused => 1 | .journalFull => 2 | .holdExpired => 3 | .trackerSpill => 4
  | .restoreFault => 5 | .startComplete => 6 | .powerWarning => 7

/-- The detail field of an event entry (Table 11-12). -/
def EventDetail.code : EventDetail → Half
  | .none => 0
  | .refusal r => r.code
  | .depth d => BitVec.ofNat 16 d
  | .restore r => r.code
  | .start o => o.code

/-- The detail field of a result record (Table 11-6). -/
def ResultDetail.code : ResultDetail → Half
  | .number v => BitVec.ofNat 16 v
  | .config r => r.code
  | .restore r => r.code

/-- The code of an operating state (Table 11-10). No record is captured in LOADING, which has no code
and reads 0 here. -/
def OpState.code : OpState → Byte
  | .ready => 0x01 | .setup => 0x02 | .committing => 0x03 | .aborting => 0x04 | .faulted => 0x05
  | .unconfigured => 0x06
  | .startup .scanning => 0x11 | .startup .restoring => 0x12 | .startup .closing => 0x13
  | .startup .loading => 0x00

/-- The operating state an end state names. -/
def EndState.op : EndState → OpState
  | .ready => .ready
  | .unconfigured => .unconfigured
  | .faulted => .faulted

/-- The operating state a SETUP origin names. -/
def SetupOrigin.op : SetupOrigin → OpState
  | .ready => .ready
  | .unconfigured => .unconfigured

/-! ### Offsets in the control area (Table 11-1) -/

/-- The offset of a configuration slot. -/
def ConfigSlot.offset : ConfigSlot → Nat
  | .staged => 0x000
  | .primary => 0x040
  | .secondary => 0x080

/-- The offset of a header slot. -/
def HeaderSlot.offset : HeaderSlot → Nat
  | .a => 0x0C0
  | .b => 0x0D0

/-- The strapped size in KiB a level of MSZ2 to MSZ0 selects (Table 6-3). -/
def strapSize (msz : BitVec 3) : Nat :=
  match msz.toNat with
  | 0 => 64
  | 1 => 128
  | 2 => 256
  | 3 => 512
  | _ => 1024

end Sys2Proof.Machine
end

