-- ==== Sys2Proof/Machine/Ops.lean ====
section
/-! DEFINITION. The operations the blocks share: bytes of the guarded memory, counters, sequences of the
control unit (R114), raises and their updates (R144, R151), the end of a host cycle (R68), the short
and spill marks (R43, R46), the tracker's table (Chapter 3) and the end of a command's execution
(R126, R128). -/

namespace Sys2Proof.Machine

/-! ### The guarded memory -/

/-- What an address with no entry reads as (assumption 3). -/
def freshByte : Byte := 0

/-- The byte at an address. -/
def Memory.read : Memory → Nat → Byte
  | [], _ => freshByte
  | (k, v) :: rest, a => if k = a then v else Memory.read rest a

/-- A byte written at an address, keeping the canonical form. -/
def Memory.write : Memory → Nat → Byte → Memory
  | [], a, b => if b = freshByte then [] else [(a, b)]
  | (k, v) :: rest, a, b =>
    if a < k then (if b = freshByte then (k, v) :: rest else (a, b) :: (k, v) :: rest)
    else if a = k then (if b = freshByte then rest else (k, b) :: rest)
    else (k, v) :: Memory.write rest a b

/-- All entries lie above `lo` at rising addresses and differ from an unlisted byte. -/
def Memory.wfFrom : Nat → Memory → Bool
  | _, [] => true
  | lo, (k, v) :: rest => decide (lo ≤ k) && v != freshByte && Memory.wfFrom (k + 1) rest

/-- The canonical form: rising addresses, and no entry equal to what an unlisted address reads as. -/
def Memory.wf (m : Memory) : Bool := Memory.wfFrom 0 m

/-- The byte of the guarded memory at an address of the memory port. -/
def State.byteAt (s : State) (a : Addr) : Byte := s.mem.read a.toNat

/-! ### Counters -/

/-- A counter that holds at 65535 (R88). -/
def sat16 (n : Nat) : Nat := min 65535 (n + 1)

/-- A counter that holds at 255 (R116, R149, R151). -/
def sat8 (n : Nat) : Nat := min 255 (n + 1)

/-! ### Views of the state -/

/-- The depth: the number of open frames (R24). -/
def State.depth (s : State) : Nat := s.txn.frames.length

/-- The first address of the control area that the strapped size gives (R121). -/
def State.controlBase (s : State) : Nat := Machine.controlBase s.port.strap

/-- The geometry the journal unit and the restore engine use; all zero while there is none. -/
def State.geometry (s : State) : Geometry :=
  s.journal.geometry.getD { base := 0, length := 0, granule := 0, serial := 0 }

/-- The memory cycle in flight belongs to this claimant. -/
def State.inFlightFor (s : State) (c : Claimant) : Bool :=
  s.port.inFlight.any (fun m => m.claimant == c)

/-- The part is in STARTUP. -/
def OpState.isStartup : OpState → Bool
  | .startup _ => true
  | _ => false

/-- A class is a journaled window's: OPEN or FRAMED (R61). -/
def AddrClass.journaled : AddrClass → Bool
  | .window .openMode _ _ => true
  | .window .framed _ _ => true
  | _ => false

/-- A cycle that passes: it waits with cause MEMORY, or performs its memory cycle (R67). -/
def HostCycle.passing (c : HostCycle) : Bool := c.cause == none || c.cause == some .memory

/-- The host path has in flight an append, or a write to a journaled window that has been judged to pass
and whose byte is not yet written (R127). -/
def State.journaledWork (s : State) : Bool :=
  s.journal.append.isSome
    || s.host.cycle.any (fun c => c.isWrite && c.cls.journaled && c.passing)

/-- A staged-slot write judged to pass has not ended (R161). -/
def State.stagedWork (s : State) : Bool :=
  s.host.cycle.any (fun c => c.isWrite && c.cls == .control true && c.passing)

/-! ### Claims (R113, R118) -/

/-- The host path places a claim. -/
def State.claimHost (s : State) : State := s.setPort { s.port with claimHost := true }

/-- The control unit places a claim. -/
def State.claimControl (s : State) : State := s.setPort { s.port with claimControl := true }

/-- The restore engine places a claim. -/
def State.claimEngine (s : State) : State := s.setPort { s.port with claimEngine := true }

/-- The host path's standing claim is withdrawn (R118). -/
def State.withdrawHost (s : State) : State := s.setPort { s.port with claimHost := false }

/-- The restore engine's standing claim is withdrawn and its yield counter set to 0 (R116, R118). -/
def State.withdrawEngine (s : State) : State :=
  s.setPort { s.port with claimEngine := false, yieldEngine := 0 }

/-! ### Sequences of the control unit (R114) -/

/-- What a sequence sets when it begins: an update takes its four snapshot reads while the snapshot
number is unknown (R146), a slot read or write starts at buffer progress 0 (R155), and the scan starts
at position 0 with the low 16 bits of the epoch as its link (R175). -/
def prepareSequence (s : State) : Sequence → State
  | .update _ =>
    s.setStatus { s.status with
      snapReads := if s.status.snapshot.isNone then 4 else 0, liveBegun := false, areaBegun := false }
  | .configRead _ => s.setConfig { s.config with progress := 0 }
  | .configWrite _ => s.setConfig { s.config with progress := 0 }
  | .scan => s.setControl { s.control with scanPos := 0, scanLink := epochLow s.journal.epoch }
  | .headerWrite _ _ _ => s
  | .headerRead => s
  | .voidMark => s

/-- The control unit begins a sequence and places the claim for its first memory cycle (R114). -/
def beginSequence (s : State) (k : Sequence) : State :=
  (prepareSequence (s.setControl { s.control with current := some k, done := 0, buffer := [] })
    k).claimControl

/-- A sequence is requested: it begins at once at an idle control unit, and waits otherwise, in the
order in which requests are taken (R114). -/
def requestSequence (s : State) (k : Sequence) : State :=
  if s.control.current.isNone && s.control.waiting.isEmpty then beginSequence s k
  else s.setControl { s.control with waiting := s.control.waiting ++ [k] }

/-- The sequence in progress has ended. -/
def endSequence (s : State) : State :=
  s.setControl { s.control with current := none, done := 0, buffer := [] }

/-- The sequence in progress goes on to its next memory cycle. -/
def continueSequence (s : State) : State :=
  (s.setControl { s.control with done := s.control.done + 1 }).claimControl

/-! ### Raises (R144, R151) -/

/-- The start-up final update is in progress and its live-state record has begun (R144). -/
def State.finalBegun (s : State) : Bool :=
  s.control.current == some (.update .final) && s.status.liveBegun

/-- The start-up final update is in progress and its event-area write has begun (R144, case 1). -/
def State.finalAreaBegun (s : State) : Bool :=
  s.control.current == some (.update .final) && s.status.areaBegun

/-- The command in flight has an update that will still write the event area (R144, case 2). -/
def State.commandCarries (s : State) : Bool :=
  s.command.inFlight.isSome
    && !(s.control.current == some (.update .command) && s.status.areaBegun)

/-- Cases 2 to 4 of R144: the command's update carries the raise, or an owed update does, or a raise
update is requested. -/
def requestRaiseUpdate (s : State) : State :=
  if s.commandCarries then s
  else if s.status.owed then s
  else requestSequence (s.setStatus { s.status with owed := true }) (.update .raise)

/-- The update a raise asks for (R144). -/
def updateForRaise (s : State) : State :=
  if s.txn.op.isStartup && !s.finalAreaBegun then s else requestRaiseUpdate s

/-- The update a negation of the power warning asks for (R144, R184). -/
def updateForNegation (s : State) : State :=
  if s.txn.op.isStartup && !s.finalBegun then s else requestRaiseUpdate s

/-- The repeat count of the entry of a kind goes up by 1, holding at 255 (R151, case 1). -/
def repeatEntry (k : EventKind) (e : EventEntry) : EventEntry :=
  if e.kind = k then { e with repeats := sat8 e.repeats } else e

/-- The event queue and the dropped counter after a raise (R151). -/
def takeRaise (st : Status) (k : EventKind) (d : EventDetail) (arg : Option Nat) : Status :=
  if st.queue.any (fun e => e.kind == k) then { st with queue := st.queue.map (repeatEntry k) }
  else if st.queue.length < 4 then
    { st with queue := st.queue ++ [{ kind := k, detail := d, argument := arg, repeats := 1 }] }
  else { st with dropped := sat8 st.dropped }

/-- An event is raised: taken by the queue, then handled for its update (R144, R151). -/
def raiseEvent (s : State) (k : EventKind) (d : EventDetail) (arg : Option Nat) : State :=
  updateForRaise (s.setStatus (takeRaise s.status k d arg))

/-! ### The frame stack's marks (R43, R46) -/

/-- The short flag of the top frame is set, if there is one. -/
def markTopShort : List Frame → List Frame
  | [] => []
  | f :: rest => { f with short := true } :: rest

/-- The spill flag of the top frame is set, if there is one. -/
def markTopSpill : List Frame → List Frame
  | [] => []
  | f :: rest => { f with spill := true } :: rest

/-- A faulted write marks the top frame short, except in COMMITTING (R43). -/
def markShort (s : State) : State :=
  if s.txn.op = .committing then s
  else s.setTxn { s.txn with frames := markTopShort s.txn.frames }

/-! ### The end of a host cycle (R68) -/

/-- What waited for the host cycle's end: step 1 of an ADOPT (R161). -/
def releaseStagedRead (s : State) : State :=
  if s.config.readWaits then
    requestSequence (s.setConfig { s.config with readWaits := false }) (.configRead .staged)
  else s

/-- The host cycle ends normally; a read returns the byte (R68). -/
def endNormally (s : State) (rd : Byte) : State :=
  match s.host.cycle with
  | none => s
  | some c =>
    releaseStagedRead (s.setHost
      { cycle := none, hold := none, hfault := false,
        data := if c.isWrite then s.host.data else rd })

/-- The host cycle ends with a fault; a read returns no defined data (R68). -/
def endWithFault (s : State) : State :=
  match s.host.cycle with
  | none => s
  | some c =>
    if c.isWrite then
      releaseStagedRead (s.setHost
        { cycle := none, hold := none, hfault := true, data := s.host.data })
    else
      releaseStagedRead ((s.setHost
        { cycle := none, hold := none, hfault := true,
          data := Config.undefinedByte s.free }).setFree (s.free + 1))

/-- A cycle faulted in STARTUP: counted, and nothing else (R79). -/
def faultInStartup (s : State) : State :=
  endWithFault (s.setStatus { s.status with startFaults := sat16 s.status.startFaults })

/-- The event a faulted write raises (Table 4-4). -/
def raiseRefusal (s : State) (r : WriteReason) (a : Addr) : State :=
  if r = .journalFull then raiseEvent s .journalFull .none (some a.toNat)
  else raiseEvent s .writeRefused (.refusal r) (some a.toNat)

/-- A write faulted outside STARTUP for a reason: its event, the refused-write counter, the short mark,
and the end of the cycle (R87). -/
def refuseWrite (s : State) (r : WriteReason) : State :=
  match s.host.cycle with
  | none => s
  | some c =>
    let s := raiseRefusal s r c.addr
    let s := s.setStatus { s.status with refused := sat16 s.status.refused }
    endWithFault (markShort s)

/-- A host cycle ends at hold expiry (R85, R181). -/
def expireCycle (s : State) : State :=
  match s.host.cycle with
  | none => s
  | some c =>
    if s.txn.op.isStartup then faultInStartup s
    else
      let s := s.setStatus { s.status with expired := sat16 s.status.expired }
      let s := raiseEvent s .holdExpired .none (some c.addr.toNat)
      endWithFault (if c.isWrite then markShort s else s)

/-- A passing cycle claims its memory cycle; it is held with cause MEMORY until the grant (R67). -/
def claimPass (s : State) : State :=
  match s.host.cycle with
  | none => s
  | some c => (s.setHost { s.host with cycle := some { c with cause := some .memory } }).claimHost

/-! ### The granule tracker (Chapter 3) -/

/-- A lookup hits when the table holds (g, d) (R49). -/
def trackerHit (t : List TrackerEntry) (g d : Nat) : Bool :=
  t.any (fun e => e.granule == g && e.depth == d)

/-- The merge of depth `d` into depth `d - 1` on one entry (R54): an entry of depth `d` is dropped when
the table holds its granule at depth `d - 1`, and lowered otherwise. -/
def mergeEntry (t : List TrackerEntry) (d : Nat) (e : TrackerEntry) : Option TrackerEntry :=
  if e.depth = d then
    (if trackerHit t e.granule (d - 1) then none else some { e with depth := d - 1 })
  else some e

/-- The merge on an inner COMMIT (R54). -/
def trackerMerge (t : List TrackerEntry) (d : Nat) : List TrackerEntry :=
  t.filterMap (mergeEntry t d)

/-- The pending marks of an abort of target `d` (R57). -/
def trackerMark (t : List TrackerEntry) (d : Nat) : List TrackerEntry :=
  t.map (fun e => { e with pending := decide (d ≤ e.depth) })

/-- Removal by index (R55). -/
def trackerRemoveIndex (t : List TrackerEntry) (p : Nat) : List TrackerEntry :=
  t.filter (fun e => e.index != p)

/-- Removal by depth (R56). -/
def trackerRemoveDepth (t : List TrackerEntry) (d : Nat) : List TrackerEntry :=
  t.filter (fun e => e.depth != d)

/-- A granule is pending while a marked entry names it (R57). -/
def trackerPending (t : List TrackerEntry) (g : Nat) : Bool :=
  t.any (fun e => e.granule == g && e.pending)

/-- The insert an append offers at its completion: added, or spilled at a full table (R51, R52). -/
def offerInsert (s : State) (g d p : Nat) : State :=
  if s.tracker.length < 64 then
    s.setTracker (s.tracker ++ [{ granule := g, depth := d, index := p, pending := false }])
  else
    raiseEvent (s.setTxn { s.txn with frames := markTopSpill s.txn.frames })
      .trackerSpill (.depth d) none

/-! ### The end of a command's execution (R126, R128) -/

/-- The execution of the command in flight ends: the outcome, the depth, the epoch and N are captured
and the command's update is requested (R128). -/
def endExecution (s : State) (r : Result) (d : ResultDetail) : State :=
  match s.command.inFlight with
  | none => s
  | some (cmd, q) =>
    requestSequence
      (s.setTxn { s.txn with
        stage := .ended { command := cmd, seq := q, result := r, detail := d, depth := s.depth,
                          epoch := s.journal.epoch, n := s.journal.n } })
      (.update .command)

end Sys2Proof.Machine
end

