-- ==== Sys2Proof/Machine/Operands.lean ====
section
/-! DEFINITION. What an address means: its class (R63) and the judgement of a host cycle by its class,
the operating state, the depth and the power warning (Sections 4.4 to 4.6). -/

namespace Sys2Proof.Machine

/-- A window covers a granule (R62). -/
def Window.covers (w : Window) (g : Nat) : Bool :=
  decide (w.base ≤ g) && decide (g < w.base + w.length)

/-- The class of an address by the windows of a map: the first window, in order, that covers its
granule (R63, test 4). -/
def classifyWindow (ws : List Window) (g : Nat) (i : Nat) : AddrClass :=
  match ws with
  | [] => .unguarded
  | w :: rest => if w.covers g then .window w.mode g i else classifyWindow rest g (i + 1)

/-- Tests 3 to 5 of R63, by the configuration's map. -/
def classifyMap (m : WindowMap) (a : Nat) : AddrClass :=
  if m.journalBase * 1024 ≤ a && a < (m.journalBase + m.journalLength) * 1024 then .journal
  else classifyWindow m.windows (a / m.granule) 0

/-- The class of a host address (R63). -/
def classify (s : State) (addr : Addr) : AddrClass :=
  let a := addr.toNat
  let byMap := match s.decoder.map with
    | none => .unguarded
    | some m => classifyMap m a
  if s.port.strap * 1024 ≤ a then .unguarded
  else
    match s.decoder.control with
    | none => byMap
    | some base => if base ≤ a && a < base + 512 then .control (decide (a < base + 64)) else byMap

/-- The target depth of the abort in progress (R35, R40). -/
def Target.level : Target → Nat
  | .depth d => d
  | .all => 1

/-- Step 1 of R70: a frame from the target up carries the spill flag, or no frame is open (an UNWIND
retried from FAULTED at depth 0). -/
def spillWide (s : State) : Bool :=
  s.txn.frames.isEmpty
    || (s.txn.frames.take (s.depth + 1 - s.engine.target.level)).any (fun f => f.spill)

/-- The judgement of a host read (R69, R70, R79). -/
def judgeRead (s : State) (cls : AddrClass) : Judgement :=
  match s.txn.op, cls with
  | .startup .loading, _ => .startFault
  | .startup _, .window _ _ _ => .startFault
  | .startup _, _ => .pass
  | .aborting, .window _ g _ =>
    if spillWide s then .hold .spill
    else if trackerPending s.tracker g then .hold .pending
    else .pass
  | _, _ => .pass

/-- The judgement of a journaled write at depth 0 by the window's mode (Table 4-1, R73). -/
def judgeUnframed : WindowMode → Judgement
  | .openMode => .pass
  | .framed => .fault .noFrame
  | .frozen => .fault .frozen

/-- The judgement of a journaled write in READY at depth 1 or more (R49, R74, R21). -/
def judgeFramed (s : State) (g : Nat) : Judgement :=
  if trackerHit s.tracker g s.depth then .pass
  else if s.journal.n < s.journal.capacity then .append
  else .fault .journalFull

/-- The judgement of a write to a journaled window outside STARTUP, the power warning negated (R73 to
R78). -/
def judgeJournaled (s : State) (mode : WindowMode) (g : Nat) : Judgement :=
  match s.txn.op with
  | .ready => if s.depth = 0 then judgeUnframed mode else judgeFramed s g
  | .setup => judgeUnframed mode
  | .unconfigured => judgeUnframed mode
  | .committing => .hold .commit
  | .aborting => .hold .abort
  | .faulted => .fault .faulted
  | .startup _ => .startFault

/-- The judgement of a host write outside STARTUP with the power warning negated (R71 to R78). -/
def judgeWriteByClass (s : State) (cls : AddrClass) : Judgement :=
  match cls with
  | .unguarded => .pass
  | .control staged =>
    if staged && s.txn.op == .setup && !s.config.adopting then .pass else .fault .control
  | .journal => .fault .journal
  | .window .frozen _ _ => .fault .frozen
  | .window mode g _ => judgeJournaled s mode g

/-- The judgement of a host write in STARTUP (R79). -/
def judgeWriteInStartup (s : State) (p : Phase) (cls : AddrClass) : Judgement :=
  if p = .loading || s.warning then .startFault
  else if cls = .unguarded then .pass else .startFault

/-- The judgement of a host write (R71 to R80). -/
def judgeWrite (s : State) (cls : AddrClass) : Judgement :=
  match s.txn.op with
  | .startup p => judgeWriteInStartup s p cls
  | _ => if s.warning then .fault .power else judgeWriteByClass s cls

/-- The judgement of a host cycle. -/
def judge (s : State) (c : HostCycle) : Judgement :=
  if c.isWrite then judgeWrite s c.cls else judgeRead s c.cls

end Sys2Proof.Machine
end

