-- ==== Sys2Proof/Machine/HostPort.lean ====
section
/-! DEFINITION. The host port: taking and judging a host cycle (R66), appends at their request (R16),
their end (R18) and their abandonment (R19), held cycles that are judged again or released (R66, R70),
hold expiry (R85, R86), and what a write in progress does when the power warning asserts (R81). -/

namespace Sys2Proof.Machine

/-! ### Taking a cycle -/

/-- An append is requested: position N is reserved and the write is held with cause APPEND (R16). -/
def startAppend (s : State) : State :=
  match s.host.cycle with
  | some ⟨addr, isWrite, data, .window mode g i, _⟩ =>
    let a : Append :=
      { addr := addr, data := data, depth := s.depth, granule := g, index := s.journal.n,
        progress := 0, abandon := none }
    let c : HostCycle := ⟨addr, isWrite, data, .window mode g i, some .append⟩
    ((s.setJournal { s.journal with append := some a }).setHost
      { s.host with cycle := some c }).claimHost
  | _ => s

/-- The cycle in progress is held with a cause (R66). -/
def holdCycle (s : State) (cause : HoldCause) : State :=
  match s.host.cycle with
  | none => s
  | some c => s.setHost { s.host with cycle := some { c with cause := some cause } }

/-- A judgement takes effect on the cycle in progress (R66). -/
def applyJudgement (s : State) : Judgement → State
  | .pass => claimPass s
  | .hold cause => holdCycle s cause
  | .fault reason => refuseWrite s reason
  | .startFault => faultInStartup s
  | .append => startAppend s

/-- The host port takes a cycle, which ends any earlier cycle's fault on the bus, and judges it (R64,
R66, R68). -/
def takeCycle (s : State) (addr : Addr) (isWrite : Bool) (data : Byte) : State :=
  let c : HostCycle :=
    { addr := addr, isWrite := isWrite, data := data, cls := classify s addr, cause := none }
  let s := s.setHost { s.host with cycle := some c, hfault := false }
  applyJudgement s (judge s c)

/-! ### Held cycles -/

/-- A held write is classified again and judged again (R66). -/
def rejudge (s : State) (c : HostCycle) : State :=
  let c : HostCycle := { c with cls := classify s c.addr, cause := none }
  let s := s.setHost { s.host with cycle := some c }
  applyJudgement s (judge s c)

/-- COMMITTING or ABORTING has ended: a write held for it is judged again, and a read held for it passes
(R66, R70, R76, R77). -/
def releaseHeld (s : State) : State :=
  match s.host.cycle with
  | none => s
  | some c =>
    match c.cause with
    | some .commit => rejudge s c
    | some .abort => rejudge s c
    | some .spill => claimPass s
    | some .pending => claimPass s
    | _ => s

/-- A read held with cause PENDING passes when its granule is no longer pending (R58, R70). -/
def releaseGranule (s : State) : State :=
  match s.host.cycle with
  | some ⟨_, _, _, .window _ g _, some .pending⟩ =>
    if trackerPending s.tracker g then s else claimPass s
  | _ => s

/-! ### The end of an append -/

/-- The memory cycles of an append before its host byte: G reads and G + 10 writes (R17). -/
def appendBefore (g : Nat) : Nat := g + recordSize g

/-- The record an append writes (R17, step 2). -/
def appendRecord (s : State) (a : Append) : List Byte :=
  recordBytes s.journal.epoch a.depth a.granule a.index s.journal.link s.journal.payload

/-- The append completes: the host cycle ends normally, N and the chain link advance, and the tracker is
offered the insert (R18). -/
def appendCompletes (s : State) (a : Append) : State :=
  let check := recordCheck s.geometry.granule (appendRecord s a)
  let s := s.setJournal { s.journal with n := a.index + 1, link := check, append := none }
  offerInsert (endNormally s 0) a.granule a.depth a.index

/-- The append is abandoned: nothing of R18 is done, its claim is gone, and the host cycle ends with a
fault, reported by the cause the host port took first (R19). -/
def abandonAppend (s : State) (cause : AbandonCause) : State :=
  let s := (s.setJournal { s.journal with append := none }).withdrawHost
  match cause with
  | .power => refuseWrite s .power
  | .expiry => expireCycle s

/-- The append in flight is to be abandoned when its memory cycle in flight ends; the cause taken first
stays (R19). -/
def markAbandon (s : State) (a : Append) (cause : AbandonCause) : State :=
  s.setJournal { s.journal with
    append := some { a with abandon := some (a.abandon.getD cause) } }

/-- The append's memory cycle in flight is its host byte's (R86). -/
def hostByteGranted (s : State) (a : Append) : Bool :=
  s.inFlightFor .host && a.progress == appendBefore s.geometry.granule

/-- A cause to abandon the append in flight arrives: void when the host byte's cycle is granted, at the
end of the append's own cycle when one is granted, and at once otherwise (R19, R81, R86). -/
def abandonOn (s : State) (a : Append) (cause : AbandonCause) : State :=
  if hostByteGranted s a then s
  else if s.inFlightFor .host then markAbandon s a cause
  else abandonAppend s cause

/-! ### Hold expiry (R85, R86) -/

/-- The timer of a hold in progress stands at its limit. -/
def timerAtLimit (s : State) (t : HoldTimer) : State :=
  s.setHost { s.host with hold := some { t with count := t.limit, phase := 0 } }

/-- The hold in progress expires, by where the cycle stands; void when the memory cycle that would end
the host cycle has been granted (R85, R86). -/
def expireHold (s : State) : State :=
  match s.host.cycle with
  | none => s
  | some c =>
    match c.cause with
    | none => s
    | some .append =>
      (match s.journal.append with
        | none => s
        | some a => abandonOn s a .expiry)
    | some .memory => expireCycle s.withdrawHost
    | some .commit => expireCycle s
    | some .abort => expireCycle s
    | some .pending => expireCycle s
    | some .spill => expireCycle s

/-- A hold that has a limit has not reached it yet (R83, R85). -/
def HoldTimer.runs (t : HoldTimer) : Bool := t.limit != 0 && decide (t.count < t.limit)

/-- The hold timer starts at 0 when a cycle is first held, under the limit and clock frequency in force
then (R83, R84). The divider of the time base starts at 0 with it (DESIGN CHOICE: R83 does not say whether
it runs freely, assumption 9). -/
def startTimer (s : State) : State :=
  match s.host.cycle, s.host.hold with
  | some c, none =>
    if c.cause.isSome then
      let t : HoldTimer :=
        { count := 0, phase := 0,
          limit := (s.config.loaded.map (fun k => k.holdLimit)).getD 0,
          clock := (s.config.loaded.map (fun k => k.clock)).getD 0 }
      s.setHost { s.host with hold := some t }
    else s
  | _, _ => s

/-! ### The power warning on a write in progress (R81) -/

/-- A write in progress ends with reason POWER at once; in STARTUP it is counted there (R79, R80). -/
def faultForPower (s : State) : State :=
  if s.txn.op.isStartup then faultInStartup s else refuseWrite s .power

/-- What the assertion does to a write in progress, by where it stands (R81). -/
def writeUnderWarning (s : State) (c : HostCycle) : State :=
  match c.cause with
  | some .append =>
    (match s.journal.append with
      | none => s
      | some a => abandonOn s a .power)
  | some .memory => faultForPower s.withdrawHost
  | some .abort => faultForPower s
  | some .commit => s
  | some .pending => s
  | some .spill => s
  | none => s

/-- The host port acts on the assertion; reads are not affected (R81). -/
def hostOnWarning (s : State) : State :=
  match s.host.cycle with
  | none => s
  | some c => if c.isWrite then writeUnderWarning s c else s

/-- The assertion ends a write in progress at once, so that two raises come together (R152). -/
def warningEndsWrite (s : State) : Bool :=
  match s.host.cycle with
  | none => false
  | some c =>
    c.isWrite && !s.txn.op.isStartup
      && (c.cause == some .memory || c.cause == some .abort
        || (c.cause == some .append && s.journal.append.isSome && !s.inFlightFor .host))

end Sys2Proof.Machine
end

