-- ==== Sys2Proof/Machine/Control.lean ====
section
/-! DEFINITION. The transaction controller's courses: epoch advances (R13 to R15), restore runs and their
ends (R91, R98, R22, R37, R38), the entry to CLOSING and its end (R178, R179), the execution of the eight
commands (R127 to R137), and what each finished piece of work brings about. -/

namespace Sys2Proof.Machine

/-! ### Epoch advances -/

/-- The geometry and serial a new header carries: those of the record being adopted during an ADOPT,
those of the loaded configuration otherwise (R14, R166). -/
def advanceGeometry (s : State) : Geometry :=
  if s.config.adopting then configGeometry (readConfig s.config.buffer)
  else (s.config.loaded.map configGeometry).getD s.geometry

/-- The header written after the slots are judged: the successor of the current epoch into the other
slot, or epoch 1 into slot A (R13, R14, R15). -/
def headerAfter (choice : Option (HeaderSlot × Long)) (g : Geometry) : Sequence :=
  match choice with
  | some (slot, epoch) => .headerWrite slot.other (epochSucc epoch) g
  | none => .headerWrite .a 1 g

/-- An epoch advance is requested: outside start-up with no current header, both slots are read first
(R14, R15). -/
def requestAdvance (s : State) : State :=
  match s.journal.slot with
  | some slot => requestSequence s (headerAfter (some (slot, s.journal.epoch)) (advanceGeometry s))
  | none =>
    if s.txn.op.isStartup then requestSequence s (headerAfter none (advanceGeometry s))
    else requestSequence s .headerRead

/-! ### CLOSING (R178, R179) -/

/-- CLOSING ends with the end state READY: START_COMPLETE is raised with n and the final update is
requested (R179). -/
def closingEnds (s : State) : State :=
  let o : StartOutcome := if s.txn.headerWritten then .restored else .clean
  let s := raiseEvent s .startComplete (.start o) (some s.txn.found)
  requestSequence (s.setTxn { s.txn with endState := some .ready }) (.update .final)

/-- A new header is needed (R178). -/
def headerNeeded (s : State) : Bool :=
  s.journal.slot.isNone || s.txn.found != 0
    || s.journal.geometry != s.config.loaded.map configGeometry

/-- The phase becomes CLOSING: a progress update is requested, then the header if one is needed (R178). -/
def enterClosing (s : State) : State :=
  let s := requestSequence (s.setTxn { s.txn with op := .startup .closing }) (.update .progress)
  if headerNeeded s then
    requestAdvance (s.setTxn { s.txn with headerWritten := true })
  else closingEnds s

/-! ### Restore runs (R91, R98) -/

/-- An inner abort ends: the entries of the target depth are removed, the frame leaves the stack, and the
state becomes READY with the outcome DONE; a held cycle is then judged again or released (R37, R56). -/
def innerAbortEnds (s : State) : State :=
  let s := s.setTracker (trackerRemoveDepth s.tracker s.engine.target.level)
  let s := s.setTxn { s.txn with frames := s.txn.frames.tail, op := .ready }
  releaseHeld (endExecution s .done (.number s.engine.count))

/-- The restore of an inner abort is complete: with no record restored the abort ends at once; otherwise
N becomes the stopping position, the chain link the last link, and the void mark is requested (R22,
R37). -/
def truncateJournal (s : State) : State :=
  if s.engine.count = 0 then innerAbortEnds s
  else
    requestSequence
      (s.setJournal { s.journal with n := s.engine.stop, link := s.engine.lastLink }) .voidMark

/-- A run ends: the engine becomes IDLE with the cursor none, and its caller goes on (R98). -/
def runEnds (s : State) : State :=
  let s := s.setEngine { s.engine with run := .idle, cursor := none }
  match s.txn.op with
  | .aborting => if 2 ≤ s.engine.target.level then truncateJournal s else requestAdvance s
  | .startup _ => enterClosing s
  | .ready => s
  | .setup => s
  | .committing => s
  | .faulted => s
  | .unconfigured => s

/-- The engine goes on to its next memory cycle: it claims it, or is suspended at this boundary while the
power warning is asserted (R102, R184). -/
def engineGoesOn (s : State) : State :=
  if s.warning then s.setEngine { s.engine with run := .suspended }
  else (s.setEngine { s.engine with run := .running }).claimEngine

/-- A run is started from position `n - 1` down to `stop`; with no record to restore it ends at once
(R91). -/
def startRun (s : State) (n stop : Nat) (target : Target) : State :=
  let s := s.setEngine { s.engine with
    stop := stop, target := target, count := 0, reason := none, reads := 0, writes := 0 }
  if n ≤ stop then runEnds s
  else engineGoesOn (s.setEngine { s.engine with cursor := some (n - 1) })

/-- ABORTING is entered with a target depth and a stopping position: the pending marks are set and the run
from N - 1 is started (R35, R40, R57). -/
def enterAborting (s : State) (target stop : Nat) : State :=
  let s := (s.setTxn { s.txn with op := .aborting }).setTracker (trackerMark s.tracker target)
  startRun s s.journal.n stop (.depth target)

/-! ### The eight commands -/

/-- ACKNOWLEDGE: the oldest entry is removed, and the dropped counter cleared with the last (R130,
R153). -/
def runAcknowledge (s : State) : State :=
  match s.status.queue with
  | [] => endExecution s .queueEmpty (.number 0)
  | _ :: rest =>
    let dropped := if rest.isEmpty then 0 else s.status.dropped
    endExecution (s.setStatus { s.status with queue := rest, dropped := dropped })
      .done (.number rest.length)

/-- BEGIN: in READY at depth 0 to 7 a frame opens with S equal to N and both flags clear (R28, R29,
R131). -/
def runBegin (s : State) (q : Half) : State :=
  match s.txn.op with
  | .ready =>
    if s.depth < 8 then
      let f : Frame := { start := s.journal.n, short := false, spill := false, opening := q }
      endExecution (s.setTxn { s.txn with frames := f :: s.txn.frames }) .done (.number 0)
    else endExecution s .depthLimit (.number 0)
  | _ => endExecution s .refusedState (.number 0)

/-- A frame takes the flags of the frame committed into it (R30, step 2). -/
def Frame.carry (below top : Frame) : Frame :=
  { below with short := below.short || top.short, spill := below.spill || top.spill }

/-- COMMIT: an inner frame closes into the frame below; frame 1 enters COMMITTING unless it is short
(R30, R31, R132). -/
def runCommit (s : State) : State :=
  match s.txn.op with
  | .ready =>
    (match s.txn.frames with
      | [] => endExecution s .noFrame (.number 0)
      | [f] =>
        if f.short then endExecution s .shortFrame (.number f.opening.toNat)
        else requestAdvance (s.setTxn { s.txn with op := .committing })
      | f :: below :: rest =>
        let s' := (s.setTracker (trackerMerge s.tracker s.depth)).setTxn
          { s.txn with frames := below.carry f :: rest }
        endExecution s' .done (.number f.opening.toNat))
  | _ => endExecution s .refusedState (.number 0)

/-- ABORT in SETUP: the state becomes the SETUP origin, which becomes none (R160). -/
def cancelSetup (s : State) : State :=
  let op := (s.config.origin.map SetupOrigin.op).getD .ready
  endExecution ((s.setTxn { s.txn with op := op }).setConfig { s.config with origin := none })
    .done (.number 0)

/-- ABORT: in READY the top frame is undone; in SETUP setup is cancelled (R35, R133). -/
def runAbort (s : State) : State :=
  match s.txn.op with
  | .ready =>
    (match s.txn.frames with
      | [] => endExecution s .noFrame (.number 0)
      | f :: _ => enterAborting s s.depth f.start)
  | .setup => cancelSetup s
  | _ => endExecution s .refusedState (.number 0)

/-- UNWIND: in READY every open frame is undone; in FAULTED the restore is retried (R40, R41, R134). -/
def runUnwind (s : State) : State :=
  match s.txn.op with
  | .ready =>
    if s.txn.frames.isEmpty then endExecution s .noFrame (.number 0) else enterAborting s 1 0
  | .faulted => enterAborting s 1 0
  | _ => endExecution s .refusedState (.number 0)

/-- SETUP is entered from a state, which is recorded as its origin (R158). -/
def enterSetup (s : State) (o : SetupOrigin) : State :=
  endExecution ((s.setTxn { s.txn with op := .setup }).setConfig { s.config with origin := some o })
    .done (.number 0)

/-- SETUP (R135, R158). -/
def runSetup (s : State) : State :=
  match s.txn.op with
  | .ready => if s.depth = 0 then enterSetup s .ready else endExecution s .refusedState (.number 0)
  | .unconfigured => enterSetup s .unconfigured
  | .setup => endExecution s .done (.number 0)
  | _ => endExecution s .refusedState (.number 0)

/-- ADOPT: in SETUP it starts the read of the staged slot, after a staged-slot write judged to pass before
it has ended (R136, R161). -/
def runAdopt (s : State) : State :=
  match s.txn.op with
  | .setup =>
    if s.stagedWork then s.setConfig { s.config with adopting := true, readWaits := true }
    else requestSequence (s.setConfig { s.config with adopting := true }) (.configRead .staged)
  | _ => endExecution s .refusedState (.number 0)

/-- DISCARD: in FAULTED it asks for the epoch advance that gives up the records (R42, R137). -/
def runDiscard (s : State) : State :=
  match s.txn.op with
  | .faulted => requestAdvance s
  | _ => endExecution s .refusedState (.number 0)

/-- A command judged by its own rule (R127, step 2). -/
def runCommand (s : State) (cmd : Command) (q : Half) : State :=
  match cmd with
  | .acknowledge => runAcknowledge s
  | .begin => runBegin s q
  | .commit => runCommit s
  | .abort => runAbort s
  | .unwind => runUnwind s
  | .setup => runSetup s
  | .adopt => runAdopt s
  | .discard => runDiscard s

/-- The execution of the command in flight begins, and it is judged (R126, R127). -/
def beginExecution (s : State) (cmd : Command) (q : Half) : State :=
  let s := s.setTxn { s.txn with stage := .executing }
  if s.warning && cmd != .acknowledge then endExecution s .powerWarning (.number 0)
  else runCommand s cmd q

/-- A command handed to the transaction controller begins execution at once, unless the host path has
journaled work in flight (R127). -/
def handOver (s : State) (cmd : Command) (q : Half) : State :=
  if s.journaledWork then s.setTxn { s.txn with stage := .waiting } else beginExecution s cmd q

/-- A strobe is taken: the busy flag is set, the sequence number raised, and the command recorded and
handed over (R124). -/
def takeStrobe (s : State) (cmd : Command) : State :=
  let q := s.command.seq + 1
  let s := s.setCommand { s.command with
    busy := true, seq := q, inFlight := some (cmd, q), strobe := true }
  handOver s cmd q

/-- A strobe is ignored: the overrun flag is set (R125). -/
def ignoreStrobe (s : State) : State :=
  s.setCommand { s.command with overrun := true, strobe := true }

/-- The command in flight waits for the host path and may begin (R127). -/
def commandDue (s : State) : Bool := s.txn.stage == .waiting && !s.journaledWork

/-! ### What a finished epoch advance brings about -/

/-- The effects of an epoch advance on the journal unit and the tracker (R14, R48). -/
def advanceEpoch (s : State) (slot : HeaderSlot) (epoch : Long) (g : Geometry) : State :=
  (s.setJournal { s.journal with
    slot := some slot, epoch := epoch, geometry := some g, capacity := capacityOf g, n := 0,
    link := epochLow epoch }).setTracker []

/-- The opening sequence of frame 1 (R33). -/
def openingOfFirst (fs : List Frame) : Half := (fs.getLast?.map (fun f => f.opening)).getD 0

/-- COMMITTING ends: frame 1 is removed, the state becomes READY, and held cycles are judged again
(R33). -/
def committingEnds (s : State) : State :=
  let q := openingOfFirst s.txn.frames
  releaseHeld (endExecution (s.setTxn { s.txn with frames := [], op := .ready })
    .done (.number q.toNat))

/-- An abort of target depth 1 ends: every frame is removed and the state becomes READY (R38). -/
def outerAbortEnds (s : State) : State :=
  releaseHeld (endExecution (s.setTxn { s.txn with frames := [], op := .ready })
    .done (.number s.engine.count))

/-- DISCARD ends: every frame is removed, the engine becomes IDLE, the state becomes READY (R42, R109). -/
def discardEnds (s : State) : State :=
  let s := s.setEngine { s.engine with run := .idle, cursor := none, count := 0, reason := none }
  endExecution (s.setTxn { s.txn with frames := [], op := .ready }) .done (.number 0)

/-- The map a configuration gives the window decoder (Table 9-2). -/
def configMap (c : Configuration) : WindowMap :=
  { granule := c.granule, windows := c.windows, journalBase := c.journalBase,
    journalLength := c.journalLength }

/-- A configuration is loaded: every user of Table 9-2 takes its values together (R156). -/
def loadConfig (s : State) (c : Configuration) : State :=
  ((s.setConfig { s.config with loaded := some c }).setDecoder
    { s.decoder with map := some (configMap c) }).setPort { s.port with yieldLimit := c.yieldLimit }

/-- Steps 6 and 7 of an ADOPT (R166). -/
def adoptInstalls (s : State) : State :=
  let s := loadConfig s (readConfig s.config.buffer)
  let s := s.setConfig { s.config with adopting := false, origin := none }
  endExecution (s.setTxn { s.txn with op := .ready, frames := [] }) .done (.number 0)

/-- The last byte of a new header is written (R14), and the work that asked for the advance ends. -/
def epochAdvanceCompletes (s : State) (slot : HeaderSlot) (epoch : Long) (g : Geometry) : State :=
  let s := advanceEpoch s slot epoch g
  match s.txn.op with
  | .committing => committingEnds s
  | .aborting => outerAbortEnds s
  | .faulted => discardEnds s
  | .setup => adoptInstalls s
  | .startup _ => closingEnds s
  | .ready => s
  | .unconfigured => s

/-! ### Header slots and configuration slots read and written -/

/-- The journal unit loads the current header, and the chain scan begins (R174). -/
def loadHeader (s : State) (slot : HeaderSlot) (h : Header) : State :=
  requestSequence
    (s.setJournal { s.journal with
      slot := some slot, epoch := h.epoch, geometry := some h.geometry,
      capacity := capacityOf h.geometry, n := 0, link := epochLow h.epoch }) .scan

/-- The choice of R12 on the 32 bytes of both header slots. -/
def chooseSlots (s : State) (l : List Byte) : Option (HeaderSlot × Header) :=
  chooseHeader (readHeader s.port.strap (l.take 16)) (readHeader s.port.strap (l.drop 16))

/-- Both header slots are read, in SCANNING or for an advance without a current header (R15, R174). -/
def headerSlotsRead (s : State) (l : List Byte) : State :=
  let choice := chooseSlots s l
  if s.txn.op.isStartup then
    match choice with
    | none => enterClosing s
    | some (slot, h) => loadHeader s slot h
  else requestSequence s (headerAfter (choice.map (fun c => (c.1, c.2.epoch))) (advanceGeometry s))

/-- LOADING ends with a configuration: its users take it, the decoder takes the control-area bounds, and
the phase becomes SCANNING with a progress update and then the header read (R172, R174). -/
def loadingEnds (s : State) (c : Configuration) : State :=
  let s := loadConfig s c
  let s := s.setDecoder { s.decoder with control := some s.controlBase }
  let s := s.setTxn { s.txn with op := .startup .scanning }
  requestSequence (requestSequence s (.update .progress)) .headerRead

/-- LOADING ends with both slots invalid: start-up ends toward UNCONFIGURED (R173). -/
def noConfigEnds (s : State) : State :=
  let s := s.setDecoder { s.decoder with control := some s.controlBase }
  let s := s.setTxn { s.txn with endState := some .unconfigured }
  requestSequence (raiseEvent s .startComplete (.start .noConfig) (some 0)) (.update .final)

/-- A staged record that fails validation ends its ADOPT (R164). -/
def adoptFails (s : State) (r : ConfigReason) : State :=
  endExecution (s.setConfig { s.config with adopting := false }) .configInvalid (.config r)

/-- A configuration slot is read, and its record is validated: for ADOPT step 1 (R162, R164, R165), or for
LOADING (R172, R173). -/
def configSlotRead (s : State) (slot : ConfigSlot) : State :=
  match slot, validate s.port.strap s.config.buffer with
  | .staged, some r => adoptFails s r
  | .staged, none => requestSequence s (.configWrite .secondary)
  | .primary, none => loadingEnds s (readConfig s.config.buffer)
  | .primary, some _ => requestSequence s (.configRead .secondary)
  | .secondary, none => loadingEnds s (readConfig s.config.buffer)
  | .secondary, some _ => noConfigEnds s

/-- A configuration slot is written: the primary follows the secondary, and the header follows the primary
(R165, R166). -/
def configSlotWritten (s : State) : ConfigSlot → State
  | .secondary => requestSequence s (.configWrite .primary)
  | .primary => requestAdvance s
  | .staged => s

/-! ### The start-up scan (R175) -/

/-- What a record's bytes read so far say to the scan. -/
inductive ScanVerdict where
  | more | reject | accept
  deriving DecidableEq, Repr

/-- The tests of R175, each as soon as its bytes are read. -/
def scanVerdict (s : State) (buf : List Byte) : ScanVerdict :=
  let g := s.geometry.granule
  if buf.length = 1 then (if Machine.byteAt buf 0 = recordTag then .more else .reject)
  else if buf.length = 6 then (if (halfAt buf 4).toNat = s.control.scanPos then .more else .reject)
  else if buf.length = 8 then (if halfAt buf 6 = s.control.scanLink then .more else .reject)
  else if buf.length = recordSize g then
    (if recordVerifies s.journal.epoch g buf then .accept else .reject)
  else .more

/-- The phase becomes RESTORING: a progress update is requested and the run from n - 1 is started (R176). -/
def enterRestoring (s : State) : State :=
  let s := s.setTxn { s.txn with op := .startup .restoring }
  startRun (requestSequence s (.update .progress)) s.txn.found 0 .all

/-- The scan ends with `n` positions accepted (R175). -/
def scanEnds (s : State) (n : Nat) : State :=
  let s := s.setJournal { s.journal with n := n, link := s.control.scanLink }
  let s := s.setTxn { s.txn with found := n }
  if n = 0 then enterClosing (endSequence s) else enterRestoring (endSequence s)

/-- The scan accepts the record at its position (R175). -/
def scanAccepts (s : State) (buf : List Byte) : State :=
  s.setControl { s.control with
    scanPos := s.control.scanPos + 1, scanLink := recordCheck s.geometry.granule buf, buffer := [] }

/-! ### The restore engine's step (R92 to R96, R105) -/

/-- The granule of a record lies wholly below the control area and wholly outside the journal region of
the header geometry (check 5 of Table 5-4). -/
def rangePasses (s : State) (granule : Nat) : Bool :=
  let g := s.geometry
  let lo := granule * g.granule
  let hi := lo + g.granule
  decide (hi ≤ s.controlBase)
    && (decide (hi ≤ g.base * 1024) || decide ((g.base + g.length) * 1024 ≤ lo))

/-- The depth check of Table 5-4, applied in runs with a depth target. -/
def depthPasses : Target → Nat → Bool
  | .all, _ => true
  | .depth t, d => decide (t ≤ d) && decide (d ≤ 8)

/-- The first check of Table 5-4 that the record in the buffer fails at position `p`, if any (R93). -/
def verifyRecord (s : State) (rec : List Byte) (p : Nat) : Option RestoreReason :=
  if Machine.byteAt rec 0 ≠ recordTag then some .tag
  else if (halfAt rec 4).toNat ≠ p then some .index
  else if !depthPasses s.engine.target (Machine.byteAt rec 1).toNat then some .depth
  else if !recordVerifies s.journal.epoch s.geometry.granule rec then some .check
  else if !rangePasses s (halfAt rec 2).toNat then some .range
  else none

/-- A restore fault in RESTORING: start-up ends toward FAULTED (R177). -/
def startupFaults (s : State) : State :=
  let s := s.setTxn { s.txn with endState := some .faulted }
  requestSequence (raiseEvent s .startComplete (.start .fault) (some s.engine.count)) (.update .final)

/-- A restore fault in ABORTING: the state becomes FAULTED, the command ends with RESTORE_FAULT, and held
cycles are judged again or released (R39, R106). -/
def abortFaults (s : State) (r : RestoreReason) : State :=
  releaseHeld (endExecution (s.setTxn { s.txn with op := .faulted }) .restoreFault (.restore r))

/-- A record fails verification: the engine becomes STOPPED and RESTORE_FAULT is raised with the reason and
the failing position (R105). -/
def restoreFault (s : State) (r : RestoreReason) (p : Nat) : State :=
  let s := s.setEngine { s.engine with run := .stopped, reason := some r, reads := 0, writes := 0 }
  let s := raiseEvent s .restoreFault (.restore r) (some p)
  match s.txn.op with
  | .aborting => abortFaults s r
  | .startup _ => startupFaults s
  | _ => s

/-- The last read of the record at the cursor is done, and the record is verified (R93, R105). -/
def recordRead (s : State) : State :=
  let p := s.engine.cursor.getD 0
  match verifyRecord s s.engine.buffer p with
  | some r => restoreFault s r p
  | none => engineGoesOn s

/-- A restore step completes: the tracker entry of the position is removed, the last link taken, the count
raised, and the cursor moves down or the run ends (R96). -/
def stepCompletes (s : State) : State :=
  let p := s.engine.cursor.getD 0
  let s := releaseGranule (s.setTracker (trackerRemoveIndex s.tracker p))
  let s := s.setEngine { s.engine with
    lastLink := halfAt s.engine.buffer 6, count := s.engine.count + 1, reads := 0, writes := 0 }
  if p = s.engine.stop then runEnds s
  else engineGoesOn (s.setEngine { s.engine with cursor := some (p - 1) })

end Sys2Proof.Machine
end

