-- ==== Sys2Proof/Machine/Flags.lean ====
section
/-! DEFINITION. The output lines of the part (Table 1-5) and the flag bytes of the live-state record,
each computed from the item that drives it. A line with a # in its name is given as its assertion. -/

namespace Sys2Proof.Machine

/-- HWAIT: asserted exactly while the hold timer runs (R68, R84). -/
def State.hwait (s : State) : Bool := s.host.hold.isSome

/-- HFAULT (R68). -/
def State.hfault (s : State) : Bool := s.host.hfault

/-- CBUSY: driven by the busy flag (Table 7-2). -/
def State.cbusy (s : State) : Bool := s.command.busy

/-- ATTN: driven by the attention item (Table 8-1). -/
def State.attn (s : State) : Bool := s.status.attention

/-- RDY: low from a reset until start-up ends, and high otherwise (R141). -/
def State.rdy (s : State) : Bool := !s.txn.op.isStartup

/-- MCE#: a memory cycle is in flight (R112). -/
def State.mce (s : State) : Bool := s.port.inFlight.isSome

/-- MOE#: the memory cycle in flight is a read. -/
def State.moe (s : State) : Bool := s.port.inFlight.any (fun c => !c.isWrite)

/-- MWE#: the memory cycle in flight is a write. -/
def State.mwe (s : State) : Bool := s.port.inFlight.any (fun c => c.isWrite)

/-- MA19 to MA0 while a memory cycle is in flight (R112). -/
def State.ma (s : State) : Option Addr := s.port.inFlight.map (fun c => c.addr)

/-- One bit of a flag byte for the depth `i + 1` (Table 11-7). -/
def flagBit (b : Bool) (i : Nat) : Nat := if b then 2 ^ i else 0

/-- The flag byte of the frames in order of depth, from bit `i` up (R25, Table 11-7). -/
def flagBits (f : Frame → Bool) : List Frame → Nat → Nat
  | [], _ => 0
  | x :: rest, i => flagBit (f x) i + flagBits f rest (i + 1)

/-- The short flags of the live-state record. -/
def State.shortFlags (s : State) : Byte := byteOf (flagBits (fun f => f.short) s.txn.frames.reverse 0)

/-- The spill flags of the live-state record. -/
def State.spillFlags (s : State) : Byte := byteOf (flagBits (fun f => f.spill) s.txn.frames.reverse 0)

end Sys2Proof.Machine
end

