-- ==== Sys2Proof/Machine/Status.lean ====
section
/-! DEFINITION. The records of a status update as they are captured (R145 to R148, R191, R192), the
memory cycles of an update, and the four snapshot reads after a reset (R146). -/

namespace Sys2Proof.Machine

/-! ### Record images -/

/-- The operating state a live-state record reports: the end state in the start-up final update (R180),
the operating state otherwise (R147). -/
def reportedState (s : State) (k : UpdateKind) : OpState :=
  match k, s.txn.endState with
  | .final, some e => e.op
  | _, _ => s.txn.op

/-- The restore cursor's field: a position, or 0xFFFF for none (Table 11-7). -/
def cursorField (c : Option Nat) : List Byte :=
  match c with
  | none => [0xFF, 0xFF]
  | some p => halfOf p

/-- The serial of the configuration in force; 0 when there is none (R147). -/
def loadedSerial (s : State) : Half := (s.config.loaded.map (fun c => c.serial)).getD 0

/-- The body of the live-state record, offsets 0x04 to 0x3B (Table 11-7). -/
def liveBody (s : State) (k : UpdateKind) : List Byte :=
  [(reportedState s k).code, flagByte s.warning, byteOf s.depth, s.shortFlags, s.spillFlags,
    byteOf s.tracker.length]
  ++ halfOf s.journal.n ++ halfOf s.journal.capacity ++ cursorField s.engine.cursor
  ++ longBytes s.journal.epoch ++ halfBytes (loadedSerial s)
  ++ halfOf s.status.refused ++ halfOf s.status.expired ++ halfOf s.status.startFaults
  ++ zeros 32

/-- One entry place of the event area (Table 11-12). -/
def entryBytes (e : EventEntry) : List Byte :=
  [e.kind.code, byteOf e.repeats, flagByte e.argument.isSome, 0] ++ halfBytes e.detail.code ++ [0, 0]
  ++ longBytes (BitVec.ofNat 32 (e.argument.getD 0)) ++ zeros 12

/-- The four entry places: the queue's entries, oldest first, then empty entries (R148). -/
def entryPlaces (q : List EventEntry) : List Byte :=
  ((q.map entryBytes).flatten ++ zeros 96).take 96

/-- The event area in the order it is written: the entry places, the count and dropped counter with two
zero bytes, the snapshot number (R148, R192). -/
def areaBytes (st : Status) : List Byte :=
  entryPlaces st.queue ++ [byteOf st.queue.length, byteOf st.dropped, 0, 0] ++ longBytes st.number

/-- The result record (Table 11-6). -/
def resultBytes (r : CommandResult) (overrun : Bool) : List Byte :=
  halfBytes r.seq ++ [r.command.code, r.result.code] ++ halfBytes r.detail.code
  ++ [flagByte overrun, byteOf r.depth] ++ longBytes r.epoch ++ halfOf r.n ++ zeros 18

/-- The result record of the command whose execution has ended. -/
def resultRecord (s : State) : List Byte :=
  match s.txn.stage with
  | .ended r => resultBytes r s.command.overrun
  | _ => zeros 32

/-! ### The course of an update -/

/-- The memory cycles of an update besides its snapshot reads (Table 8-2). -/
def UpdateKind.length : UpdateKind → Nat
  | .progress => 64
  | .raise => 168
  | .final => 168
  | .command => 200

/-- The memory cycles of the update in progress. -/
def updateLength (s : State) (k : UpdateKind) : Nat := s.status.snapReads + k.length

/-- The offset in the event area of its `k`-th written byte (R148). -/
def areaOffset (k : Nat) : Nat := if k < 96 then 8 + k else k - 96

/-- The `j`-th byte of the live-state record: the number, the body, the number (R146). -/
def liveByte (st : Status) (j : Nat) : Byte :=
  if j < 4 then Machine.byteAt (longBytes st.number) j
  else if j < 60 then Machine.byteAt st.body (j - 4)
  else Machine.byteAt (longBytes st.number) (j - 60)

/-- What is captured at the grant of an update's cycle `i` (R145): the live-state record at the first
cycle, the new number when the leading field begins, the event area when its first byte write begins,
and the result record with the overrun flag, which is then clear, when its write begins (assumption 17 but for the first). -/
def captureLive (s : State) (k : UpdateKind) (i : Nat) : State :=
  if i = 0 then s.setStatus { s.status with body := liveBody s k, liveBegun := true } else s

/-- The new number, the successor of the snapshot number (R146). -/
def captureNumber (s : State) (i : Nat) : State :=
  if i = s.status.snapReads then
    s.setStatus { s.status with number := s.status.snapshot.getD 0 + 1 }
  else s

/-- The event area at its first byte write; the update-owed flag is cleared (R144, R145). -/
def captureArea (s : State) (i : Nat) : State :=
  if i = s.status.snapReads + 64 then
    s.setStatus { s.status with area := areaBytes s.status, areaBegun := true, owed := false }
  else s

/-- The result record when its write begins; the overrun flag is captured and cleared (R128). -/
def captureResult (s : State) (i : Nat) : State :=
  if i = s.status.snapReads + 168 then
    (s.setStatus { s.status with record := resultRecord s }).setCommand
      { s.command with overrun := false }
  else s

/-- All that is captured at the grant of an update's cycle. -/
def captureUpdate (s : State) (k : UpdateKind) : State :=
  let i := s.control.done
  captureResult (captureArea (captureNumber (captureLive s k i) i) i) i

/-- The control unit's memory cycle of an update, from what is captured: a snapshot read, or a write of
the live-state record, the event area or the result record (Table 11-1). -/
def updateCycle (s : State) : MemCycle :=
  let base := s.controlBase
  let i := s.control.done
  let j := i - s.status.snapReads
  if i < s.status.snapReads then
    { claimant := .control, addr := BitVec.ofNat 20 (base + 0x13C + i), isWrite := false, data := 0 }
  else if j < 64 then
    { claimant := .control, addr := BitVec.ofNat 20 (base + 0x100 + j), isWrite := true,
      data := liveByte s.status j }
  else if j < 168 then
    { claimant := .control, addr := BitVec.ofNat 20 (base + 0x140 + areaOffset (j - 64)),
      isWrite := true, data := Machine.byteAt s.status.area (j - 64) }
  else
    { claimant := .control, addr := BitVec.ofNat 20 (base + 0x0E0 + (j - 168)), isWrite := true,
      data := Machine.byteAt s.status.record (j - 168) }

/-- The snapshot number after cycle `i`: the four bytes read, or the new number when the first byte of
the leading field is written (R146). -/
def snapshotAfter (s : State) (b : Byte) : State :=
  let i := s.control.done
  if i < s.status.snapReads then
    let buf := s.control.buffer ++ [b]
    let s := s.setControl { s.control with buffer := buf }
    if i + 1 = s.status.snapReads then
      s.setStatus { s.status with snapshot := some (longAt buf 0) }
    else s
  else if i = s.status.snapReads then
    s.setStatus { s.status with snapshot := some s.status.number }
  else s

/-- ATTN after cycle `i`: set from the count that was written, at the last byte of an event-area write
(R140). -/
def attentionAfter (s : State) : State :=
  if s.control.done = s.status.snapReads + 167 then
    s.setStatus { s.status with attention := Machine.byteAt s.status.area 96 != 0 }
  else s

/-- The effects of an update's memory cycle that do not depend on its being the last. -/
def updateCycleEffects (s : State) (b : Byte) : State := attentionAfter (snapshotAfter s b)

/-- The last byte of a result record is written: the busy flag is cleared and the command is no longer
in flight (R128). -/
def commandUpdateEnds (s : State) : State :=
  (s.setCommand { s.command with busy := false, inFlight := none }).setTxn
    { s.txn with stage := .idle }

/-- The last byte of the start-up final update is written: the operating state becomes the end state, and
RDY rises and CBUSY falls with it (R180). -/
def startupEnds (s : State) : State :=
  match s.txn.op, s.txn.endState with
  | .startup _, some e =>
    (s.setTxn { s.txn with op := e.op }).setCommand { s.command with busy := false }
  | _, _ => s

/-- What follows the last cycle of an update, by its kind. -/
def updateEnds (s : State) : UpdateKind → State
  | .command => commandUpdateEnds s
  | .final => startupEnds s
  | .raise => s
  | .progress => s

end Sys2Proof.Machine
end

