-- ==== Sys2Proof/Machine/MemoryPort.lean ====
section
/-! DEFINITION. The memory port: the memory cycle each claimant's claim is for (R113), arbitration and the
yield counters (R115, R116), and the end of a memory cycle with what its claimant does then (R112). -/

namespace Sys2Proof.Machine

/-! ### The memory cycle a claim is for -/

/-- A read cycle. -/
def readCycle (c : Claimant) (a : Nat) : MemCycle :=
  { claimant := c, addr := BitVec.ofNat 20 a, isWrite := false, data := 0 }

/-- A write cycle. -/
def writeCycle (c : Claimant) (a : Nat) (b : Byte) : MemCycle :=
  { claimant := c, addr := BitVec.ofNat 20 a, isWrite := true, data := b }

/-- The next memory cycle of an append: the reads of the granule, the writes of the record, the host
byte (R17). -/
def appendCycle (s : State) (a : Append) : MemCycle :=
  let g := s.geometry.granule
  if a.progress < g then readCycle .host (a.granule * g + a.progress)
  else if a.progress < appendBefore g then
    writeCycle .host (positionAddr s.geometry a.index + (a.progress - g))
      (Machine.byteAt (appendRecord s a) (a.progress - g))
  else { claimant := .host, addr := a.addr, isWrite := true, data := a.data }

/-- The memory cycle of a passing host cycle (R67). -/
def passCycle (c : HostCycle) : MemCycle :=
  { claimant := .host, addr := c.addr, isWrite := c.isWrite, data := c.data }

/-- The memory cycle the host path claims. -/
def hostCycle (s : State) : Option MemCycle :=
  match s.journal.append, s.host.cycle with
  | some a, _ => some (appendCycle s a)
  | none, some c => some (passCycle c)
  | none, none => none

/-- The memory cycle the restore engine claims: the next read of the record at the cursor (R92), or the
next payload write (R95). -/
def engineCycle (s : State) : Option MemCycle :=
  let e := s.engine
  let g := s.geometry
  match e.cursor with
  | none => none
  | some p =>
    if e.reads < recordSize g.granule then
      some (readCycle .engine (positionAddr g p + e.reads))
    else
      some (writeCycle .engine ((halfAt e.buffer 2).toNat * g.granule + e.writes)
        (Machine.byteAt e.buffer (8 + e.writes)))

/-- The memory cycle a sequence of the control unit claims (R113, Table 6-2). -/
def sequenceCycle (s : State) : Sequence → MemCycle
  | .headerWrite slot epoch g =>
    writeCycle .control (s.controlBase + slot.offset + s.control.done)
      (Machine.byteAt (headerBytes epoch g) s.control.done)
  | .headerRead => readCycle .control (s.controlBase + HeaderSlot.a.offset + s.control.done)
  | .voidMark => writeCycle .control (positionAddr s.geometry s.journal.n) voidTag
  | .configRead slot => readCycle .control (s.controlBase + slot.offset + s.config.progress)
  | .configWrite slot =>
    writeCycle .control (s.controlBase + slot.offset + s.config.progress)
      (Machine.byteAt s.config.buffer s.config.progress)
  | .scan =>
    readCycle .control (positionAddr s.geometry s.control.scanPos + s.control.buffer.length)
  | .update _ => updateCycle s

/-- The memory cycle the control unit claims. -/
def controlCycle (s : State) : Option MemCycle := s.control.current.map (sequenceCycle s)

/-! ### Arbitration (R115, R116) -/

/-- The host path is granted: its claim is spent, each waiting claimant is passed over, and a hold with
cause MEMORY ends (R67, R116). -/
def grantHost (s : State) : State :=
  let p := s.port
  let s' := s.setPort { p with
    inFlight := hostCycle s, claimHost := false,
    yieldControl := if p.claimControl then sat8 p.yieldControl else p.yieldControl,
    yieldEngine := if p.claimEngine then sat8 p.yieldEngine else p.yieldEngine }
  match s.host.cycle with
  | some ⟨a, w, d, k, some .memory⟩ => s'.setHost { s.host with cycle := some ⟨a, w, d, k, none⟩ }
  | _ => s'

/-- What is captured when the control unit is granted (R145). -/
def captureControl (s : State) : State :=
  match s.control.current with
  | some (.update k) => captureUpdate s k
  | _ => s

/-- The control unit is granted: its claim is spent and its counter set to 0 (R116). -/
def grantControl (s : State) : State :=
  let s := captureControl s
  s.setPort { s.port with inFlight := controlCycle s, claimControl := false, yieldControl := 0 }

/-- The restore engine is granted: its claim is spent and its counter set to 0 (R116). -/
def grantEngine (s : State) : State :=
  s.setPort { s.port with inFlight := engineCycle s, claimEngine := false, yieldEngine := 0 }

/-- The claimant a decision grants, by the first step of R115 that fits. -/
def decideGrant (p : Port) : Option Claimant :=
  if p.claimControl && decide (p.yieldLimit ≤ p.yieldControl) then some .control
  else if p.claimEngine && decide (p.yieldLimit ≤ p.yieldEngine) then some .engine
  else if p.claimHost then some .host
  else if p.claimControl then some .control
  else if p.claimEngine then some .engine
  else none

/-- A decision is made while no memory cycle is in flight (R111, R115). -/
def arbitrate (s : State) : State :=
  if s.port.inFlight.isSome then s
  else
    match decideGrant s.port with
    | some .host => grantHost s
    | some .control => grantControl s
    | some .engine => grantEngine s
    | none => s

/-- The close of every step: the next grant is decided after the step's effects (R112), and the timer of
a cycle that is then held starts (R84). -/
def settle (s : State) : State := startTimer (arbitrate s)

/-! ### The end of a memory cycle (R112) -/

/-- The byte a memory cycle hands to its claimant: the byte read, or the byte written. -/
def cycleByte (s : State) (c : MemCycle) : Byte := if c.isWrite then c.data else s.byteAt c.addr

/-- The memory cycle in flight has ended: its write is in memory and the port is free. -/
def landCycle (s : State) (c : MemCycle) : State :=
  let s' := s.setPort { s.port with inFlight := none }
  if c.isWrite then s'.setMem (s.mem.write c.addr.toNat c.data) else s'

/-- A cycle of an append that is not its last ends: a byte of the pre-image is kept, and the append goes
on or is abandoned at this boundary (R17, R19). -/
def appendGoesOn (s : State) (a : Append) (b : Byte) : State :=
  let payload :=
    if a.progress < s.geometry.granule then s.journal.payload.take a.progress ++ [b]
    else s.journal.payload
  match a.abandon with
  | some cause => abandonAppend (s.setJournal { s.journal with payload := payload }) cause
  | none =>
    (s.setJournal { s.journal with
      payload := payload, append := some { a with progress := a.progress + 1 } }).claimHost

/-- The append's cycle in flight is its host byte's. -/
def appendAtHostByte (s : State) (a : Append) : Bool :=
  a.progress == appendBefore s.geometry.granule

/-- A host-path cycle ends (R67, R112). -/
def hostCycleEnds (s : State) (b : Byte) : State :=
  match s.journal.append with
  | some a => if appendAtHostByte s a then appendCompletes s a else appendGoesOn s a b
  | none => endNormally s b

/-- A read of the record at the cursor ends: the byte is kept and the buffer progress rises (R92). -/
def engineKeeps (s : State) (b : Byte) : State :=
  s.setEngine { s.engine with
    buffer := s.engine.buffer.take s.engine.reads ++ [b], reads := s.engine.reads + 1 }

/-- The engine's cycle in flight is the last read of its record (R93). -/
def engineAtLastRead (s : State) : Bool :=
  s.engine.reads + 1 == recordSize s.geometry.granule

/-- The engine's cycle in flight is a payload write and the last (R96). -/
def engineAtLastWrite (s : State) : Bool :=
  decide (recordSize s.geometry.granule ≤ s.engine.reads)
    && s.engine.writes + 1 == s.geometry.granule

/-- A restore-engine cycle ends (R92 to R96). -/
def engineCycleEnds (s : State) (b : Byte) : State :=
  if s.engine.reads < recordSize s.geometry.granule then
    if engineAtLastRead s then recordRead (engineKeeps s b) else engineGoesOn (engineKeeps s b)
  else if engineAtLastWrite s then stepCompletes s
  else engineGoesOn (s.setEngine { s.engine with writes := s.engine.writes + 1 })

/-- A read of a configuration slot ends: the byte is kept and the buffer progress rises (R155). -/
def configKeeps (s : State) (b : Byte) : State :=
  s.setConfig { s.config with
    buffer := s.config.buffer.take s.config.progress ++ [b], progress := s.config.progress + 1 }

/-- A write of a configuration slot ends: the buffer progress rises (R155). -/
def configWrote (s : State) : State :=
  s.setConfig { s.config with progress := s.config.progress + 1 }

/-- What the scan does with the record bytes read (R175). -/
def scanGoesOn (s : State) (buf : List Byte) : State :=
  match scanVerdict s buf with
  | .reject => scanEnds s s.control.scanPos
  | .more => (s.setControl { s.control with buffer := buf }).claimControl
  | .accept =>
    let s := scanAccepts s buf
    if s.control.scanPos = s.journal.capacity then scanEnds s s.control.scanPos else s.claimControl

/-- The bytes both header slots hold when the read in flight ends. -/
def headerReadBytes (s : State) (b : Byte) : List Byte := s.control.buffer ++ [b]

/-- The cycle in flight is the last of its sequence. -/
def sequenceAtLast (s : State) : Sequence → Bool
  | .headerWrite _ _ _ => s.control.done + 1 == 16
  | .headerRead => s.control.done + 1 == 32
  | .voidMark => true
  | .configRead _ => s.config.progress + 1 == 64
  | .configWrite _ => s.config.progress + 1 == 64
  | .scan => false
  | .update k => s.control.done + 1 == updateLength s k

/-- What a cycle of a sequence keeps, whether or not it is the last. -/
def sequenceKeeps (s : State) (k : Sequence) (b : Byte) : State :=
  match k with
  | .headerRead => s.setControl { s.control with buffer := headerReadBytes s b }
  | .configRead _ => configKeeps s b
  | .configWrite _ => configWrote s
  | .update _ => updateCycleEffects s b
  | .headerWrite _ _ _ => s
  | .voidMark => s
  | .scan => s

/-- What follows the last cycle of a sequence, the sequence having ended; `l` is what it had read. -/
def sequenceEnds (s : State) (l : List Byte) : Sequence → State
  | .headerWrite slot epoch g => epochAdvanceCompletes s slot epoch g
  | .headerRead => headerSlotsRead s l
  | .voidMark => innerAbortEnds s
  | .configRead slot => configSlotRead s slot
  | .configWrite slot => configSlotWritten s slot
  | .scan => s
  | .update k => updateEnds s k

/-- A control-unit cycle ends (R112, R114). -/
def controlCycleEnds (s : State) (b : Byte) : State :=
  match s.control.current with
  | none => s
  | some .scan => scanGoesOn s (s.control.buffer ++ [b])
  | some k =>
    let kept := sequenceKeeps s k b
    if sequenceAtLast s k then sequenceEnds (endSequence kept) kept.control.buffer k
    else continueSequence kept

/-- The claimant's own rule at the end of its cycle (R112). -/
def claimantGoesOn (s : State) (c : Claimant) (b : Byte) : State :=
  match c with
  | .host => hostCycleEnds s b
  | .control => controlCycleEnds s b
  | .engine => engineCycleEnds s b

/-- The memory cycle in flight ends and is handed to its claimant (R112). -/
def cycleEnds (s : State) (c : MemCycle) : State :=
  claimantGoesOn (landCycle s c) c.claimant (cycleByte s c)

end Sys2Proof.Machine
end

