-- ==== Sys2Proof/Machine/ResetRows.lean ====
section
/-! DEFINITION. The rows of the reset line and of the power-fail warning: RESET_ASSERT, RESET_END,
POWER_WARNING_ASSERT and POWER_WARNING_NEGATE. -/

namespace Sys2Proof.Machine

/-- A row that has no effect while a reset lasts (R170). -/
def unlessResetting (s : State) (t : State) : State := if s.resetting then s else t

/-- The memory a reset leaves: a byte write in flight leaves its byte with the old or the new value (R111,
R170). -/
def tornMemory (s : State) : Memory :=
  match s.port.inFlight with
  | some c =>
    if c.isWrite && Config.tornWriteLands s.free then s.mem.write c.addr.toNat c.data else s.mem
  | none => s.mem

/-- Every block at its values after reset (Table 10-1). The memory, the items sampled when the reset ends,
the free-value counter and the queue are kept. -/
def resetBlocks (s : State) : State :=
  { State.reset with
    mem := s.mem
    port := { State.reset.port with strap := s.port.strap }
    command := { State.reset.command with strobe := s.command.strobe }
    warning := s.warning
    free := s.free
    pending := s.pending }

/-- RESET_ASSERT (R170): every block stops its work in flight and takes its values after reset. -/
def execResetAssert (s : State) : Host.Outcome State Fault Refusal :=
  .next (resetBlocks ((s.setMem (tornMemory s)).setFree (s.free + 1)))

/-- An assertion of the power warning is raised as an event (R183). -/
def raiseWarning (s : State) : State := raiseEvent s .powerWarning .none none

/-- What takes effect together when a reset ends (R170): the straps, PWARN# and CSTRB are sampled and STARTUP
begins in LOADING with the read of the primary slot (R172). A low PWARN# is an assertion (R183). -/
def leaveReset (s : State) (msz : BitVec 3) (pwarnHigh cstrbHigh : Bool) : State :=
  let s := s.setResetting false
  let s := s.setPort { s.port with strap := strapSize msz }
  let s := s.setCommand { s.command with strobe := cstrbHigh }
  let s := s.setTxn { s.txn with op := .startup .loading }
  let s := requestSequence (s.setWarning (!pwarnHigh)) (.configRead .primary)
  if pwarnHigh then s else raiseWarning s

/-- RESET_END (R170). With no reset in force there is none to end. -/
def execResetEnd (msz : BitVec 3) (pwarnHigh cstrbHigh : Bool) (s : State) :
    Host.Outcome State Fault Refusal :=
  .next (if s.resetting then settle (leaveReset s msz pwarnHigh cstrbHigh) else s)

/-- The engine is suspended at once when no memory cycle of its own is in flight; otherwise at the end of
that cycle (R102, R118). -/
def engineOnWarning (s : State) : State :=
  if s.engine.run = .running && !s.inFlightFor .engine then
    (s.setEngine { s.engine with run := .suspended }).withdrawEngine
  else s

/-- The event of the assertion and the host port's own report, in either order when both come (R152). -/
def reportWarning (s : State) : State :=
  if warningEndsWrite s then
    if Config.hostReportFirst s.free then raiseWarning (hostOnWarning (s.setFree (s.free + 1)))
    else hostOnWarning (raiseWarning (s.setFree (s.free + 1)))
  else hostOnWarning (raiseWarning s)

/-- An assertion of the power warning, taken by every block (R183, R185, Table 10-4). -/
def warningAsserts (s : State) : State := engineOnWarning (reportWarning (s.setWarning true))

/-- POWER_WARNING_ASSERT (R183): PWARN# going low while the condition is negated. -/
def execPowerWarningAssert (s : State) : Host.Outcome State Fault Refusal :=
  .next (unlessResetting s (if s.warning then s else settle (warningAsserts s)))

/-- A SUSPENDED engine becomes RUNNING and claims the cycle its buffer progress names (R103). -/
def engineResumes (s : State) : State :=
  if s.engine.run = .suspended then engineGoesOn s else s

/-- A negation of the power warning (R103, R144, R183). -/
def warningNegates (s : State) : State := updateForNegation (engineResumes (s.setWarning false))

/-- POWER_WARNING_NEGATE (R183): PWARN# going high while the condition is asserted. -/
def execPowerWarningNegate (s : State) : Host.Outcome State Fault Refusal :=
  .next (unlessResetting s (if s.warning then settle (warningNegates s) else s))

end Sys2Proof.Machine
end

