-- ==== Sys2Proof/Machine/CommandRows.lean ====
section
/-! DEFINITION. The rows of the command lines: STROBE_TAKEN, STROBE_IGNORED, COMMAND_EXECUTION_BEGIN and
the eight commands. -/

namespace Sys2Proof.Machine

/-- A rising edge of CSTRB (R124, R125): the command is taken with the busy flag clear, and the strobe is
ignored with the overrun flag set otherwise. -/
def risingEdge (s : State) (code : BitVec 3) : State :=
  if s.command.busy then ignoreStrobe s else settle (takeStrobe s (commandOf code))

/-- The command port sees CSTRB at a level. A high level after a low one is a rising edge, and `edge` is what
it brings about; every other level is only kept as the last one seen (R123, R124, Table 7-2). -/
def seeStrobe (s : State) (cstrbHigh : Bool) (edge : State) : State :=
  if cstrbHigh && !s.command.strobe then edge
  else s.setCommand { s.command with strobe := cstrbHigh }

/-- STROBE_TAKEN (R124). -/
def execStrobeTaken (lines : CommandLines) (s : State) : Host.Outcome State Fault Refusal :=
  .next (unlessResetting s (seeStrobe s lines.cstrbHigh (risingEdge s lines.code)))

/-- STROBE_IGNORED (R125): the port sees CSTRB high. With the busy flag clear no strobe is ignored (assumption 11). -/
def execStrobeIgnored (s : State) : Host.Outcome State Fault Refusal :=
  .next (unlessResetting s (seeStrobe s true (if s.command.busy then ignoreStrobe s else s)))

/-- The command that waited begins execution (R127). -/
def waitingBegins (s : State) : State :=
  match s.command.inFlight with
  | some (cmd, q) => if commandDue s then settle (beginExecution s cmd q) else s
  | none => s

/-- COMMAND_EXECUTION_BEGIN (R127). -/
def execCommandExecutionBegin (s : State) : Host.Outcome State Fault Refusal :=
  .next (unlessResetting s (waitingBegins s))

/-- The execution of a given command begins: the command in flight, if it is that one and waits no longer
for the host path; with no command in flight and the busy flag clear, its strobe comes first, with CSTRB
returned low before it rises, and is taken. In every other case it is not handed to the transaction controller (assumption 10). -/
def giveCommand (s : State) (cmd : Command) : State :=
  match s.command.inFlight with
  | some (c, q) => if c = cmd && commandDue s then settle (beginExecution s c q) else s
  | none => if s.command.busy then s else settle (takeStrobe s cmd)

/-- ACKNOWLEDGE (R130, R153). -/
def execAcknowledge (s : State) : Host.Outcome State Fault Refusal :=
  .next (unlessResetting s (giveCommand s .acknowledge))

/-- BEGIN (R28, R29, R131). -/
def execBegin (s : State) : Host.Outcome State Fault Refusal :=
  .next (unlessResetting s (giveCommand s .begin))

/-- COMMIT (R30 to R33, R132). -/
def execCommit (s : State) : Host.Outcome State Fault Refusal :=
  .next (unlessResetting s (giveCommand s .commit))

/-- ABORT (R35 to R39, R133, R160). -/
def execAbort (s : State) : Host.Outcome State Fault Refusal :=
  .next (unlessResetting s (giveCommand s .abort))

/-- UNWIND (R40, R41, R134). -/
def execUnwind (s : State) : Host.Outcome State Fault Refusal :=
  .next (unlessResetting s (giveCommand s .unwind))

/-- SETUP (R135, R158). -/
def execSetup (s : State) : Host.Outcome State Fault Refusal :=
  .next (unlessResetting s (giveCommand s .setup))

/-- ADOPT (R136, R161). -/
def execAdopt (s : State) : Host.Outcome State Fault Refusal :=
  .next (unlessResetting s (giveCommand s .adopt))

/-- DISCARD (R42, R137). -/
def execDiscard (s : State) : Host.Outcome State Fault Refusal :=
  .next (unlessResetting s (giveCommand s .discard))

end Sys2Proof.Machine
end

