-- ==== Sys2Proof/Machine/HostRows.lean ====
section
/-! DEFINITION. The rows of the host bus: HOST_READ, HOST_WRITE, HOST_CYCLE_RELEASE and HOLD_EXPIRED, and
the count of the hold timer between commands. -/

namespace Sys2Proof.Machine

/-- A host cycle is taken when none is in progress; the host port never holds two (R65). -/
def hostBegins (s : State) (addr : Addr) (isWrite : Bool) (data : Byte) : State :=
  unlessResetting s (if s.host.cycle.isSome then s else settle (takeCycle s addr isWrite data))

/-- HOST_READ (R69). -/
def execHostRead (addr : Addr) (s : State) : Host.Outcome State Fault Refusal :=
  .next (hostBegins s addr false 0)

/-- HOST_WRITE (R66). -/
def execHostWrite (addr : Addr) (data : Byte) (s : State) : Host.Outcome State Fault Refusal :=
  .next (hostBegins s addr true data)

/-- HOST_CYCLE_RELEASE (R68): HFAULT is negated when the host ends the cycle on the bus. -/
def execHostCycleRelease (s : State) : Host.Outcome State Fault Refusal :=
  .next (s.setHost { s.host with hfault := false })

/-- The hold timer reaches the limit of a hold that has not reached it (R85). -/
def holdExpires (s : State) : State :=
  match s.host.hold with
  | none => s
  | some t => if t.runs then settle (expireHold (timerAtLimit s t)) else s

/-- HOLD_EXPIRED (R85): the hold timer reaches the hold limit while a cycle is held. -/
def execHoldExpired (s : State) : Host.Outcome State Fault Refusal :=
  .next (unlessResetting s (holdExpires s))

/-- One cycle of CLK on a running hold timer: the time base divides CLK by the configured frequency in MHz,
and each count is one microsecond of it (R83, R84). With no configured frequency nothing is counted. -/
def tickTimer (s : State) (t : HoldTimer) : State :=
  if t.clock = 0 then s
  else if t.phase + 1 < t.clock then
    s.setHost { s.host with hold := some { t with phase := t.phase + 1 } }
  else if t.limit ≠ 0 ∧ t.count + 1 = t.limit then holdExpires s
  else s.setHost { s.host with hold := some { t with count := t.count + 1, phase := 0 } }

/-- One cycle of CLK with no command waiting (assumption 9). -/
def tick (s : State) : State :=
  unlessResetting s
    (match s.host.hold with
      | none => s
      | some t => tickTimer s t)

end Sys2Proof.Machine
end

