-- ==== Sys2Proof/Machine/WorkRows.lean ====
section
/-! DEFINITION. The rows of the part's own work: the end of the memory cycle in flight, by what it ends
(R112), and the start of a control-unit sequence (R114). Each of the rows from APPEND_COMPLETE on is the
end of one kind of memory cycle, and is due exactly when that cycle is in flight. -/

namespace Sys2Proof.Machine

/-- MEMORY_CYCLE_COMPLETE (R112): the memory cycle in flight ends, with its claimant's own rule as part of
that ending, and the next grant is decided. -/
def execMemoryCycleComplete (s : State) : Host.Outcome State Fault Refusal :=
  .next (unlessResetting s
    (match s.port.inFlight with
      | some c => settle (cycleEnds s c)
      | none => s))

/-- CONTROL_SEQUENCE_START (R114): an idle control unit begins the sequence that has waited longest. -/
def execControlSequenceStart (s : State) : Host.Outcome State Fault Refusal :=
  .next (unlessResetting s
    (match s.control.current, s.control.waiting with
      | none, k :: rest => settle (beginSequence (s.setControl { s.control with waiting := rest }) k)
      | _, _ => s))

/-- The end of a cycle of one claimant, if it is in flight and `due` says it is the one the row names;
`f` is given the state with the cycle landed, and the cycle's byte. -/
def onCycle (s : State) (who : Claimant) (due : Byte → Bool) (f : State → Byte → State) : State :=
  unlessResetting s
    (match s.port.inFlight with
      | some c =>
        if c.claimant = who && due (cycleByte s c) then settle (f (landCycle s c) (cycleByte s c)) else s
      | none => s)

/-- APPEND_COMPLETE (R18). -/
def execAppendComplete (s : State) : Host.Outcome State Fault Refusal :=
  match s.journal.append with
  | some a => .next (onCycle s .host (fun _ => appendAtHostByte s a) (fun t _ => appendCompletes t a))
  | none => .next s

/-- RESTORE_RECORD_READ (R93). -/
def execRestoreRecordRead (s : State) : Host.Outcome State Fault Refusal :=
  .next (onCycle s .engine (fun _ => engineAtLastRead s) (fun t b => recordRead (engineKeeps t b)))

/-- RESTORE_STEP_COMPLETE (R96). -/
def execRestoreStepComplete (s : State) : Host.Outcome State Fault Refusal :=
  .next (onCycle s .engine (fun _ => engineAtLastWrite s) (fun t _ => stepCompletes t))

/-- The end of the last cycle of the sequence in progress: the sequence ends and its end takes effect. -/
def lastOfSequence (s : State) (k : Sequence) : State :=
  onCycle s .control (fun _ => sequenceAtLast s k)
    (fun t b => sequenceEnds (endSequence (sequenceKeeps t k b)) (sequenceKeeps t k b).control.buffer k)

/-- VOID_MARK_WRITTEN (R23). -/
def execVoidMarkWritten (s : State) : Host.Outcome State Fault Refusal :=
  match s.control.current with
  | some .voidMark => .next (lastOfSequence s .voidMark)
  | _ => .next s

/-- HEADER_SLOTS_READ (R15, R174). -/
def execHeaderSlotsRead (s : State) : Host.Outcome State Fault Refusal :=
  match s.control.current with
  | some .headerRead => .next (lastOfSequence s .headerRead)
  | _ => .next s

/-- EPOCH_ADVANCE_COMPLETE (R14). -/
def execEpochAdvanceComplete (s : State) : Host.Outcome State Fault Refusal :=
  match s.control.current with
  | some (.headerWrite slot epoch g) => .next (lastOfSequence s (.headerWrite slot epoch g))
  | _ => .next s

/-- CONFIG_SLOT_READ_COMPLETE (R162). -/
def execConfigSlotReadComplete (s : State) : Host.Outcome State Fault Refusal :=
  match s.control.current with
  | some (.configRead slot) => .next (lastOfSequence s (.configRead slot))
  | _ => .next s

/-- CONFIG_SLOT_WRITE_COMPLETE (R165). -/
def execConfigSlotWriteComplete (s : State) : Host.Outcome State Fault Refusal :=
  match s.control.current with
  | some (.configWrite slot) => .next (lastOfSequence s (.configWrite slot))
  | _ => .next s

/-- The record bytes the scan has when the read in flight ends. -/
def scanBytes (s : State) (b : Byte) : List Byte := s.control.buffer ++ [b]

/-- The read in flight ends the scan: a test fails, or the last position is accepted (R175). -/
def scanAtEnd (s : State) (b : Byte) : Bool :=
  match scanVerdict s (scanBytes s b) with
  | .reject => true
  | .more => false
  | .accept => s.control.scanPos + 1 == s.journal.capacity

/-- SCAN_END (R175). -/
def execScanEnd (s : State) : Host.Outcome State Fault Refusal :=
  match s.control.current with
  | some .scan => .next (onCycle s .control (scanAtEnd s) (fun t b => scanGoesOn t (scanBytes t b)))
  | _ => .next s

/-- STARTUP_END (R180). -/
def execStartupEnd (s : State) : Host.Outcome State Fault Refusal :=
  match s.control.current with
  | some (.update .final) => .next (lastOfSequence s (.update .final))
  | _ => .next s

/-- STATUS_UPDATE_COMPLETE (R128). -/
def execStatusUpdateComplete (s : State) : Host.Outcome State Fault Refusal :=
  match s.control.current with
  | some (.update .command) => .next (lastOfSequence s (.update .command))
  | _ => .next s

end Sys2Proof.Machine
end

