-- ==== Sys2Proof/Machine/Dispatch.lean ====
section
/-! DEFINITION. The meaning of every row of the table: one arm per constructor of `Instr`. -/

namespace Sys2Proof.Machine

def exec (i : Instr) (s : State) : Host.Outcome State Fault Refusal :=
  match i with
  | .resetAssert => Sys2Proof.Machine.execResetAssert s
  | .resetEnd msz pwarnHigh cstrbHigh => Sys2Proof.Machine.execResetEnd msz pwarnHigh cstrbHigh s
  | .powerWarningAssert => Sys2Proof.Machine.execPowerWarningAssert s
  | .powerWarningNegate => Sys2Proof.Machine.execPowerWarningNegate s
  | .hostRead addr => Sys2Proof.Machine.execHostRead addr s
  | .hostWrite addr data => Sys2Proof.Machine.execHostWrite addr data s
  | .hostCycleRelease => Sys2Proof.Machine.execHostCycleRelease s
  | .holdExpired => Sys2Proof.Machine.execHoldExpired s
  | .strobeTaken lines => Sys2Proof.Machine.execStrobeTaken lines s
  | .strobeIgnored => Sys2Proof.Machine.execStrobeIgnored s
  | .commandExecutionBegin => Sys2Proof.Machine.execCommandExecutionBegin s
  | .acknowledge => Sys2Proof.Machine.execAcknowledge s
  | .beginFrame => Sys2Proof.Machine.execBegin s
  | .commit => Sys2Proof.Machine.execCommit s
  | .abort => Sys2Proof.Machine.execAbort s
  | .unwind => Sys2Proof.Machine.execUnwind s
  | .setup => Sys2Proof.Machine.execSetup s
  | .adopt => Sys2Proof.Machine.execAdopt s
  | .discard => Sys2Proof.Machine.execDiscard s
  | .memoryCycleComplete => Sys2Proof.Machine.execMemoryCycleComplete s
  | .controlSequenceStart => Sys2Proof.Machine.execControlSequenceStart s
  | .appendComplete => Sys2Proof.Machine.execAppendComplete s
  | .restoreRecordRead => Sys2Proof.Machine.execRestoreRecordRead s
  | .restoreStepComplete => Sys2Proof.Machine.execRestoreStepComplete s
  | .voidMarkWritten => Sys2Proof.Machine.execVoidMarkWritten s
  | .headerSlotsRead => Sys2Proof.Machine.execHeaderSlotsRead s
  | .epochAdvanceComplete => Sys2Proof.Machine.execEpochAdvanceComplete s
  | .configSlotReadComplete => Sys2Proof.Machine.execConfigSlotReadComplete s
  | .configSlotWriteComplete => Sys2Proof.Machine.execConfigSlotWriteComplete s
  | .scanEnd => Sys2Proof.Machine.execScanEnd s
  | .startupEnd => Sys2Proof.Machine.execStartupEnd s
  | .statusUpdateComplete => Sys2Proof.Machine.execStatusUpdateComplete s

end Sys2Proof.Machine
end

