-- ==== Sys2Proof/Safety.lean ====
section
/-! DEFINITION. The laws of the 4120: what the manual promises of every state the part can reach, each a
predicate on one state. The first group speaks of one block and stands by itself; the second says how the
blocks' work fits together, and the later laws of that group rest on the earlier ones. -/

namespace Sys2Proof.Machine

/-! ### Laws of one block -/

/-- The guarded memory is in its canonical form (a law of the model's data, not of the manual's). -/
def MemoryLaw (s : State) : Prop := s.mem.wf = true

/-- The event queue (R149): at most 4 entries, no two of one kind, repeat counts from 1 to 255; the dropped
counter is at most 255 and nonzero only while an entry stands. -/
structure QueueLaw (s : State) : Prop where
  atMostFour   : s.status.queue.length ≤ 4
  kindsDiffer  : (s.status.queue.map (fun e => e.kind)).Nodup
  repeatsRange : ∀ e ∈ s.status.queue, 1 ≤ e.repeats ∧ e.repeats ≤ 255
  droppedRange : s.status.dropped ≤ 255
  droppedNeeds : s.status.dropped ≠ 0 → s.status.queue ≠ []

/-- The counters hold at their ends (R88, R116). -/
structure CounterLaw (s : State) : Prop where
  refused      : s.status.refused ≤ 65535
  expired      : s.status.expired ≤ 65535
  startFaults  : s.status.startFaults ≤ 65535
  yieldControl : s.port.yieldControl ≤ 255
  yieldEngine  : s.port.yieldEngine ≤ 255

/-- While a reset lasts every block stands at its values after reset (R170, Table 10-1). -/
def ResetLaw (s : State) : Prop := s.resetting = true → resetBlocks s = s

/-- A class whose writes may reach the memory: the staged slot, an unguarded address or a journaled window
(R72). -/
def AddrClass.writable : AddrClass → Bool
  | .unguarded => true
  | .control staged => staged
  | .journal => false
  | .window .frozen _ _ => false
  | .window _ _ _ => true

/-- The host cycle in progress (R65, R67, R70, R72, R84): where it stands agrees with its claim, the memory
cycle granted to it, the append in flight and the hold timer; a write that passes has a class whose writes may
reach the memory, and the holds of an abort's reads hold no write. -/
structure HostLaw (s : State) : Prop where
  passing  : ∀ c, s.host.cycle = some c → c.isWrite = true → c.passing = true → c.cls.writable = true
  readHeld : ∀ c, s.host.cycle = some c → c.cause = some .pending ∨ c.cause = some .spill →
    c.isWrite = false
  waits    : ∀ c, s.host.cycle = some c → c.cause = some .memory → s.port.claimHost = true
  granted  : ∀ c, s.host.cycle = some c → c.cause = none → s.port.inFlight = some
    { claimant := .host, addr := c.addr, isWrite := c.isWrite, data := c.data }
  appends  : ∀ c, s.host.cycle = some c → c.cause = some .append → c.isWrite = true ∧
    ∃ a, s.journal.append = some a ∧ a.addr = c.addr ∧ a.data = c.data
  append   : s.journal.append.isSome = true →
    ∃ c, s.host.cycle = some c ∧ c.cause = some .append
  claim    : s.port.claimHost = true → s.inFlightFor .host = false ∧
    (s.journal.append.isSome = true ∨ ∃ c, s.host.cycle = some c ∧ c.cause = some .memory)
  inFlight : s.inFlightFor .host = true → s.journal.append.isSome = true ∨
    ∃ c, s.host.cycle = some c ∧ c.cause = none
  held     : ∀ c, s.host.cycle = some c → c.cause.isSome = true → s.host.hold.isSome = true
  timer    : s.host.hold.isSome = true → s.host.cycle.isSome = true
  fault    : s.host.hfault = true → s.host.cycle = none

/-! ### How the blocks' work fits together -/

/-- A sequence is a status update. -/
def Sequence.isUpdate : Sequence → Bool
  | .update _ => true
  | _ => false

/-- The operating states in which the control unit brings a sequence to the memory port (Table 6-2). A header
read outside start-up belongs to an advance without a current header (R15). -/
def Sequence.belongs : Sequence → OpState → Bool
  | .headerWrite _ _ _, op =>
    op == .committing || op == .aborting || op == .faulted || op == .setup || op == .startup .closing
  | .headerRead, op =>
    op == .committing || op == .aborting || op == .faulted || op == .setup || op == .startup .scanning
  | .voidMark, op => op == .aborting
  | .configRead .staged, op => op == .setup
  | .configRead _, op => op == .startup .loading
  | .configWrite _, op => op == .setup
  | .scan, op => op == .startup .scanning
  | .update _, _ => true

/-- The sequences the control unit has in hand: the one in progress, then those that wait (R114). -/
def State.sequences (s : State) : List Sequence := s.control.current.toList ++ s.control.waiting

/-- Those of them that are not status updates. -/
def State.works (s : State) : List Sequence := s.sequences.filter (fun k => !k.isUpdate)

/-- A restore run is in progress (R90). -/
def State.running (s : State) : Bool := s.engine.run == .running || s.engine.run == .suspended

/-- One piece of work at a time (R7, R90, R114, R126, R128): the control unit's sequences belong to the
operating state, at most one of them is not an update, a run and such a sequence exclude each other, and
outside STARTUP either is the work of a command in execution; the claims and the cycle in flight are those of
the work in hand. -/
structure WorkLaw (s : State) : Prop where
  oneWork       : s.works.length ≤ 1
  belongs       : ∀ k ∈ s.sequences, k.belongs s.txn.op = true
  runAlone      : s.running = true → s.works = []
  runWhere      : s.running = true → s.txn.op = .aborting ∨ s.txn.op = .startup .restoring
  inExecution   : s.txn.op.isStartup = false → s.works ≠ [] ∨ s.running = true → s.txn.stage = .executing
  stageInFlight : s.txn.stage ≠ .idle → s.command.inFlight.isSome = true
  flightIsBusy  : s.command.inFlight.isSome = true → s.command.busy = true
  startupQuiet  : s.txn.op.isStartup = true →
    s.txn.stage = .idle ∧ s.command.inFlight = none ∧ s.command.busy = true
  updateEnded   : Sequence.update .command ∈ s.sequences → ∃ r, s.txn.stage = .ended r
  oneUpdate     : s.sequences.count (.update .command) ≤ 1
  endDecided    : s.txn.op.isStartup = true → s.txn.endState.isSome = true →
    s.works = [] ∧ s.running = false
  engineCycle   : s.port.claimEngine = true ∨ s.inFlightFor .engine = true → s.engine.run = .running
  engineOnce    : s.inFlightFor .engine = true → s.port.claimEngine = false
  controlCycle  : s.port.claimControl = true ∨ s.inFlightFor .control = true →
    s.control.current.isSome = true
  controlOnce   : s.inFlightFor .control = true → s.port.claimControl = false
  stagedRead    : s.config.readWaits = true →
    s.txn.op = .setup ∧ s.txn.stage = .executing ∧ s.works = [] ∧ s.running = false
  appendReady   : s.journal.append.isSome = true → s.txn.op = .ready

/-- The memory port never stands free with a claim waiting: the next grant is decided as part of the step that ends a
memory cycle or places a claim (R112, R115). -/
def PortLaw (s : State) : Prop :=
  s.port.inFlight = none →
    s.port.claimHost = false ∧ s.port.claimControl = false ∧ s.port.claimEngine = false

/-- Where the sequence in progress stands: its next memory cycle is claimed or in flight (R113, R114); a slot read or
write has its buffer progress at the cycles done (R155); a header read has a byte for each (R12); the scan has read
less than a record at its position, whose link at position 0 is the low 16 bits of the epoch (R175); and an update
has 4 snapshot reads or none, the snapshot number being known once they are done and unknown before (R146), its
live-state record begun at the grant of its first cycle and its event area at that of the area's first (R145). -/
structure SequenceLaw (s : State) : Prop where
  claimed    : s.control.current.isSome = true → s.port.claimControl = true ∨ s.inFlightFor .control = true
  slot       : ∀ x, s.control.current = some (.configRead x) ∨ s.control.current = some (.configWrite x) →
    s.config.progress = s.control.done
  headerRead : s.control.current = some .headerRead → s.control.buffer.length = s.control.done
  scan       : s.control.current = some .scan → s.control.buffer.length < s.geometry.granule + 10 ∧
    (s.control.scanPos = 0 → s.control.scanLink = s.journal.epoch.extractLsb' 0 16)
  snapReads  : ∀ kind, s.control.current = some (.update kind) →
    s.status.snapReads = 0 ∨ s.status.snapReads = 4
  snapshot   : ∀ kind, s.control.current = some (.update kind) →
    (s.status.snapshot.isSome = true ↔ s.status.snapReads ≤ s.control.done)
  live       : ∀ kind, s.control.current = some (.update kind) →
    (s.status.liveBegun = true ↔ s.control.done ≠ 0 ∨ s.port.claimControl = false)
  area       : ∀ kind, s.control.current = some (.update kind) →
    (s.status.areaBegun = true ↔ s.status.snapReads + 64 < s.control.done ∨
      (s.control.done = s.status.snapReads + 64 ∧ s.port.claimControl = false))

/-- The engine's run state, its cursor and FAULTED (R90): an idle engine has no cursor, a run has one between
its stopping position and N, and the engine is STOPPED in FAULTED, or where start-up is to end there, and
nowhere else. -/
structure EngineLaw (s : State) : Prop where
  idleCursor   : s.engine.run = .idle → s.engine.cursor = none
  runCursor    : s.running = true →
    ∃ p, s.engine.cursor = some p ∧ s.engine.stop ≤ p ∧ p < s.journal.n
  faultStopped : s.txn.op = .faulted → s.engine.run = .stopped
  endStopped   : s.txn.op.isStartup = true → s.txn.endState = some .faulted → s.engine.run = .stopped
  stoppedOnly  : s.engine.run = .stopped →
    s.txn.op = .faulted ∨ (s.txn.op.isStartup = true ∧ s.txn.endState = some .faulted)

/-- The states in which no frame is open (R25, R73, R75). -/
def OpState.frameless : OpState → Bool
  | .startup _ => true
  | .setup => true
  | .unconfigured => true
  | _ => false

/-- The frame stack (R24): at most eight frames, their start indexes do not decrease from frame 1 upward (the
list holds the top frame first) and none exceeds N; no frame in STARTUP, SETUP or UNCONFIGURED, one in
COMMITTING; an inner abort stops at its top frame's start, and a void mark is an inner abort's; an append in flight
is for position N in the top frame. -/
structure FrameLaw (s : State) : Prop where
  atMostEight : s.txn.frames.length ≤ 8
  ordered     : s.txn.frames.Pairwise (fun upper lower => lower.start ≤ upper.start)
  belowN      : ∀ f ∈ s.txn.frames, f.start ≤ s.journal.n
  frameless   : s.txn.op.frameless = true → s.txn.frames = []
  committing  : s.txn.op = .committing → s.txn.frames.length = 1
  innerAbort  : s.txn.op = .aborting → 2 ≤ s.engine.target.level →
    s.engine.target.level = s.txn.frames.length ∧
      ∀ f, s.txn.frames.head? = some f → s.engine.stop = f.start
  voidMark    : .voidMark ∈ s.sequences → 2 ≤ s.engine.target.level
  appendAtN   : ∀ a, s.journal.append = some a →
    a.index = s.journal.n ∧ a.depth = s.txn.frames.length ∧ 1 ≤ a.depth

/-- The start index of the frame at a depth from 1 up. -/
def State.startAt (s : State) (d : Nat) : Nat :=
  ((s.txn.frames.reverse[d - 1]?).map (fun f => f.start)).getD 0

/-- The granule tracker (R47): at most 64 entries, no two of one granule and depth; each entry's depth is from
1 to the current depth, and its index is at or above its frame's start and below N; the granule of an append
in flight has no entry at the append's depth (R51); a run in ABORTING has removed the entries of the positions
it has restored (R55). -/
structure TrackerLaw (s : State) : Prop where
  atMost64  : s.tracker.length ≤ 64
  distinct  : (s.tracker.map (fun e => (e.granule, e.depth))).Nodup
  depths    : ∀ e ∈ s.tracker, 1 ≤ e.depth ∧ e.depth ≤ s.depth
  indexes   : ∀ e ∈ s.tracker, s.startAt e.depth ≤ e.index ∧ e.index < s.journal.n
  missed    : ∀ a, s.journal.append = some a → trackerHit s.tracker a.granule a.depth = false
  restored  : s.running = true → s.txn.op = .aborting →
    ∀ e ∈ s.tracker, s.engine.stop ≤ e.index → ∀ p, s.engine.cursor = some p → e.index ≤ p

/-! ### Forms the statements use -/

/-- Every byte of the guarded memory reads as before. -/
def SameMemory (s t : State) : Prop := ∀ a, t.mem.read a = s.mem.read a

/-- The memory after the memory cycle in flight has ended: a write leaves its byte at its address, and every
other byte reads as before. -/
def MemoryAfter (s t : State) (m : MemCycle) : Prop :=
  (m.isWrite = true → t.mem.read m.addr.toNat = m.data) ∧
    ∀ a, m.isWrite = false ∨ a ≠ m.addr.toNat → t.mem.read a = s.mem.read a

/-- The event queue and every counter of the status unit are as before. -/
structure SameReports (s t : State) : Prop where
  queue       : t.status.queue = s.status.queue
  dropped     : t.status.dropped = s.status.dropped
  refused     : t.status.refused = s.status.refused
  expired     : t.status.expired = s.status.expired
  startFaults : t.status.startFaults = s.status.startFaults

/-- The counters of the status unit are as before. -/
structure SameCounters (s t : State) : Prop where
  refused     : t.status.refused = s.status.refused
  expired     : t.status.expired = s.status.expired
  startFaults : t.status.startFaults = s.status.startFaults

/-- What no work but a reset or the end of one changes, and what only loading a configuration changes. -/
structure Surroundings (s t : State) : Prop where
  warning    : t.warning = s.warning
  resetting  : t.resetting = s.resetting
  pending    : t.pending = s.pending
  strap      : t.port.strap = s.port.strap
  decoder    : t.decoder = s.decoder
  loaded     : t.config.loaded = s.config.loaded
  yieldLimit : t.port.yieldLimit = s.port.yieldLimit

/-- The command in flight, its number and the busy flag are as before. -/
structure SameCommand (s t : State) : Prop where
  inFlight : t.command.inFlight = s.command.inFlight
  busy     : t.command.busy = s.command.busy
  seq      : t.command.seq = s.command.seq
  strobe   : t.command.strobe = s.command.strobe

/-! #### Host cycles -/

/-- A claim the host path places now is granted at once (R67, R115): no memory cycle is in flight, and neither other
claimant waits with its yield counter at the limit. -/
def State.HostNext (s : State) : Prop :=
  s.port.inFlight = none ∧
  ¬(s.port.claimControl = true ∧ s.port.yieldLimit ≤ s.port.yieldControl) ∧
  ¬(s.port.claimEngine = true ∧ s.port.yieldLimit ≤ s.port.yieldEngine)

/-- The hold timer of a cycle that is held: it starts at 0 under the limit and clock in force where no hold runs
(R83, R84), and a hold that runs is not restarted by a change of its cause (R77, R84). The divider of the time base
starts at phase 0 with the hold (DESIGN CHOICE, assumption 9). -/
structure TimerRuns (s t : State) : Prop where
  starts : s.host.hold = none → t.host.hold = some
    { count := 0, phase := 0, limit := (s.config.loaded.map (fun k => k.holdLimit)).getD 0,
      clock := (s.config.loaded.map (fun k => k.clock)).getD 0 }
  goesOn : s.host.hold.isSome = true → t.host.hold = s.host.hold

/-- The blocks a host cycle leaves as they were. -/
structure HostCycleFrame (s t : State) : Prop where
  around   : Surroundings s t
  command  : SameCommand s t
  engine   : t.engine = s.engine
  tracker  : t.tracker = s.tracker
  origin   : t.config.origin = s.config.origin
  adopting : t.config.adopting = s.config.adopting
  memory   : SameMemory s t

/-- A host cycle passes (R67): granted at once with no hold of its own where the host path is next at the memory
port, and otherwise held with cause MEMORY with its claim standing and its timer running (the phase of a new timer's
divider: assumption 9). Nothing is raised or counted. -/
structure Passes (s t : State) (c : HostCycle) : Prop where
  granted  : s.HostNext → t.host.cycle = some { c with cause := none } ∧ t.host.hold = s.host.hold ∧
    t.port.inFlight = some { claimant := .host, addr := c.addr, isWrite := c.isWrite, data := c.data }
  waits    : ¬s.HostNext → t.host.cycle = some { c with cause := some .memory } ∧ t.port.claimHost = true ∧
    t.hwait = true ∧ TimerRuns s t
  noFault  : t.hfault = false
  reports  : SameReports s t
  txn      : t.txn = s.txn
  journal  : t.journal = s.journal
  frame    : HostCycleFrame s t

/-- A host cycle is held with a cause (R66), its timer running (R83, R84; the phase of a new timer's divider:
assumption 9). -/
structure Held (s t : State) (c : HostCycle) (cause : HoldCause) : Prop where
  cycle   : t.host.cycle = some { c with cause := some cause }
  hwait   : t.hwait = true
  timer   : TimerRuns s t
  noFault : t.hfault = false
  reports : SameReports s t
  txn     : t.txn = s.txn
  frame   : HostCycleFrame s t

/-- The event of a faulted write (Table 4-4): WRITE_REFUSED with its reason, or JOURNAL_FULL with no detail, and
the host address. -/
def refusalEvent (st : Status) (r : WriteReason) (addr : Addr) : Status :=
  if r = .journalFull then takeRaise st .journalFull .none (some addr.toNat)
  else takeRaise st .writeRefused (.refusal r) (some addr.toNat)

/-- The frames after a host write has faulted: the top frame is marked short, except in COMMITTING (R43). -/
def State.framesAfterFault (s : State) : List Frame :=
  if s.txn.op = .committing then s.txn.frames else markTopShort s.txn.frames

/-- A host write is faulted for a reason outside STARTUP (R43, R68, R87): the fault on the bus, the event with
the address, the refused-write counter, and the short mark of the top frame outside COMMITTING. -/
structure Refused (s t : State) (r : WriteReason) (addr : Addr) : Prop where
  cycle       : t.host.cycle = none
  hwait       : t.hwait = false
  hfault      : t.hfault = true
  queue       : t.status.queue = (refusalEvent s.status r addr).queue
  dropped     : t.status.dropped = (refusalEvent s.status r addr).dropped
  refused     : t.status.refused = sat16 s.status.refused
  expired     : t.status.expired = s.status.expired
  startFaults : t.status.startFaults = s.status.startFaults
  txn         : t.txn = { s.txn with frames := s.framesAfterFault }
  journal     : t.journal = s.journal
  frame       : HostCycleFrame s t

/-- A host cycle is faulted in STARTUP (R79): counted, with no event and no mark. -/
structure StartFaulted (s t : State) : Prop where
  cycle       : t.host.cycle = none
  hwait       : t.hwait = false
  hfault      : t.hfault = true
  startFaults : t.status.startFaults = sat16 s.status.startFaults
  refused     : t.status.refused = s.status.refused
  expired     : t.status.expired = s.status.expired
  queue       : t.status.queue = s.status.queue
  dropped     : t.status.dropped = s.status.dropped
  txn         : t.txn = s.txn
  journal     : t.journal = s.journal
  frame       : HostCycleFrame s t

/-- The end of a host cycle asks for the read of the staged slot that waited for it, and for no other (R161). -/
structure StagedReadReleased (s t : State) : Prop where
  waits : t.config.readWaits = false
  asked : t.sequences.count (.configRead .staged) =
    s.sequences.count (.configRead .staged) + (if s.config.readWaits = true then 1 else 0)

/-- The host cycle the host port takes. -/
def taken (s : State) (addr : Addr) (isWrite : Bool) (data : Byte) : HostCycle :=
  { addr := addr, isWrite := isWrite, data := data, cls := classify s addr, cause := none }

/-- The host port can take a cycle: no reset lasts, none is in progress, and no append is in flight. -/
structure HostFree (s : State) : Prop where
  noReset  : s.resetting = false
  noCycle  : s.host.cycle = none
  noAppend : s.journal.append = none

/-! #### Commands -/

/-- A command waits in flight, no reset lasts, and nothing on the host path keeps it from beginning execution
(R127). -/
structure CommandDue (s : State) (cmd : Command) (q : Half) : Prop where
  noReset : s.resetting = false
  flight  : s.command.inFlight = some (cmd, q)
  waits   : s.txn.stage = .waiting
  free    : s.journaledWork = false

/-- The stage of a command that ends in a state, with what is captured there (Table 7-3). -/
def State.outcome (t : State) (cmd : Command) (q : Half) (r : Result) (d : ResultDetail) : Stage :=
  .ended { command := cmd, seq := q, result := r, detail := d, depth := t.depth, epoch := t.journal.epoch,
           n := t.journal.n }

/-- The row of the table that is a command's own. -/
def Command.row : Command → Instr
  | .acknowledge => .acknowledge
  | .begin => .beginFrame
  | .commit => .commit
  | .abort => .abort
  | .unwind => .unwind
  | .setup => .setup
  | .adopt => .adopt
  | .discard => .discard

/-- The outcome Table 7-5 gives a command where the state and depth alone refuse it. -/
def Command.refusal (cmd : Command) (op : OpState) (d : Nat) : Option Result :=
  match cmd, op with
  | .acknowledge, _ => none
  | .begin, .ready => if d = 8 then some .depthLimit else none
  | .commit, .ready => if d = 0 then some .noFrame else none
  | .abort, .ready => if d = 0 then some .noFrame else none
  | .unwind, .ready => if d = 0 then some .noFrame else none
  | .setup, .ready => if d = 0 then none else some .refusedState
  | .abort, .setup => none
  | .setup, .setup => none
  | .adopt, .setup => none
  | .setup, .unconfigured => none
  | .unwind, .faulted => none
  | .discard, .faulted => none
  | _, _ => some .refusedState

/-- What a command's execution leaves as it was, whatever the command; with no host cycle in progress the host
port and the counters too. -/
structure CommandFrame (s t : State) : Prop where
  around  : Surroundings s t
  command : SameCommand s t
  found   : t.txn.found = s.txn.found ∧ t.txn.headerWritten = s.txn.headerWritten ∧
    t.txn.endState = s.txn.endState
  memory  : SameMemory s t
  host    : s.host.cycle = none → t.host = s.host ∧ SameCounters s t

/-- A command is refused or otherwise ends at once with nothing done but its outcome and the request of its
update (R126, R128). -/
structure EndsAtOnce (s t : State) (cmd : Command) (q : Half) (r : Result) (d : ResultDetail) : Prop where
  txn       : t.txn = { s.txn with stage := t.outcome cmd q r d }
  sequences : t.sequences = s.sequences ++ [.update .command]
  journal   : t.journal = s.journal
  tracker   : t.tracker = s.tracker
  engine    : t.engine = s.engine
  config    : t.config = s.config
  queue     : t.status.queue = s.status.queue
  dropped   : t.status.dropped = s.status.dropped
  frame     : CommandFrame s t

/-- The header write of an epoch advance from a current header, with the geometry and serial of a configuration
(R13, R14). -/
def nextHeader (slot : HeaderSlot) (epoch : Long) (k : Configuration) : Sequence :=
  .headerWrite slot.other (epochSucc epoch)
    { base := k.journalBase, length := k.journalLength, granule := k.granule, serial := k.serial }

/-- The sequence an epoch advance outside start-up asks for (R14, R15). -/
def advanceFrom (slot : Option HeaderSlot) (epoch : Long) (k : Configuration) : Sequence :=
  match slot with
  | some x => nextHeader x epoch k
  | none => .headerRead

/-- A restore run has begun: the engine's items, and its claim or its first read in flight (R91). -/
structure RunBegun (s t : State) (n stop : Nat) (target : Target) : Prop where
  engine : t.engine = { s.engine with run := if s.warning then .suspended else .running,
                                      cursor := some (n - 1), stop := stop, target := target, count := 0,
                                      reason := none, reads := 0, writes := 0 }
  claim  : s.warning = false → t.port.claimEngine = true ∨ t.inFlightFor .engine = true

/-! #### The part's own work -/

/-- The record bytes the scan has read fail one of its tests: the tag after 1 read, the index after 6, the link
after 8, the check code after the last (R175). -/
def ScanRejects (s : State) (bytes : List Byte) : Prop :=
  let G := s.geometry.granule
  (bytes.length = 1 ∧ byteAt bytes 0 ≠ 0xA5) ∨
  (bytes.length = 6 ∧ (halfAt bytes 4).toNat ≠ s.control.scanPos) ∨
  (bytes.length = 8 ∧ halfAt bytes 6 ≠ s.control.scanLink) ∨
  (bytes.length = G + 10 ∧ halfAt bytes (G + 8) ≠ crc (epochSeed s.journal.epoch) (bytes.take (G + 8)))

/-- The record bytes the scan has read are whole, and the check code agrees (R175). -/
def ScanAccepts (s : State) (bytes : List Byte) : Prop :=
  let G := s.geometry.granule
  bytes.length = G + 10 ∧
    halfAt bytes (G + 8) = crc (epochSeed s.journal.epoch) (bytes.take (G + 8))

/-- What the beginning of a sequence sets (R114), with the claim for its first memory cycle standing or granted: for
an update 4 snapshot reads while the snapshot number is unknown and none otherwise, with no record begun but the
live-state record at that grant (R145, R146); for a slot read or write a buffer progress of 0 (R155); for the scan
position 0 with the low 16 bits of the epoch as its link (R175). -/
structure Begun (s t : State) (k : Sequence) : Prop where
  current : t.control.current = some k
  nothing : t.control.done = 0 ∧ t.control.buffer = []
  claim   : t.port.claimControl = true ∨ (t.inFlightFor .control = true ∧ s.port.inFlight = none)
  update  : ∀ kind, k = .update kind → t.status.snapReads = (if s.status.snapshot = none then 4 else 0) ∧
    t.status.snapshot = s.status.snapshot ∧ t.status.areaBegun = false ∧
    t.status.liveBegun = !t.port.claimControl
  status  : (∀ kind, k ≠ .update kind) → t.status = s.status
  slot    : ∀ x, k = .configRead x ∨ k = .configWrite x → t.config = { s.config with progress := 0 }
  config  : (∀ x, k ≠ .configRead x ∧ k ≠ .configWrite x) → t.config = s.config
  scan    : k = .scan → t.control.scanPos = 0 ∧ t.control.scanLink = s.journal.epoch.extractLsb' 0 16
  noScan  : k ≠ .scan → t.control.scanPos = s.control.scanPos ∧ t.control.scanLink = s.control.scanLink

/-- The memory cycle in flight is a claimant's, and memory is in its canonical form. -/
structure CycleDue (s : State) (who : Claimant) (m : MemCycle) : Prop where
  noReset  : s.resetting = false
  inFlight : s.port.inFlight = some m
  claimant : m.claimant = who
  canon    : MemoryLaw s

/-- The memory cycle in flight is the last of the sequence in progress. -/
structure SequenceDue (s : State) (k : Sequence) (m : MemCycle) : Prop where
  cycle   : CycleDue s .control m
  current : s.control.current = some k

/-- What the end of a memory cycle of the control unit or of the restore engine leaves as it was; with no host
cycle in progress the host port too. -/
structure WorkFrame (s t : State) (m : MemCycle) : Prop where
  memory   : MemoryAfter s t m
  host     : s.host.cycle = none → t.host = s.host
  counters : SameCounters s t
  append   : t.journal.append = s.journal.append
  seq      : t.command.seq = s.command.seq
  strobe   : t.command.strobe = s.command.strobe
  warning  : t.warning = s.warning
  pending  : t.pending = s.pending
  strap    : t.port.strap = s.port.strap

/-- The memory cycle a row names is the one in flight: the last of an append, the last read of a record, the last
payload write of a step, or the last of a sequence (R17, R92, R95, R112, Table 6-2); a scan's last is the read at
which a test fails or the last position is accepted (R175). -/
def CycleNamed (c : Instr) (s : State) : Prop :=
  let G := s.geometry.granule
  s.resetting = false ∧ ∃ m, s.port.inFlight = some m ∧
    match c with
    | .appendComplete => m.claimant = .host ∧ ∃ a, s.journal.append = some a ∧ a.progress = G + (G + 10)
    | .restoreRecordRead => m.claimant = .engine ∧ s.engine.reads + 1 = G + 10
    | .restoreStepComplete => m.claimant = .engine ∧ G + 10 ≤ s.engine.reads ∧ s.engine.writes + 1 = G
    | .voidMarkWritten => m.claimant = .control ∧ s.control.current = some .voidMark
    | .headerSlotsRead =>
      m.claimant = .control ∧ s.control.current = some .headerRead ∧ s.control.done + 1 = 32
    | .epochAdvanceComplete => m.claimant = .control ∧
      (∃ x epoch g, s.control.current = some (.headerWrite x epoch g)) ∧ s.control.done + 1 = 16
    | .configSlotReadComplete => m.claimant = .control ∧
      (∃ slot, s.control.current = some (.configRead slot)) ∧ s.config.progress + 1 = 64
    | .configSlotWriteComplete => m.claimant = .control ∧
      (∃ slot, s.control.current = some (.configWrite slot)) ∧ s.config.progress + 1 = 64
    | .scanEnd => m.claimant = .control ∧ s.control.current = some .scan ∧
      let bytes := s.control.buffer ++ [if m.isWrite then m.data else s.mem.read m.addr.toNat]
      ScanRejects s bytes ∨ (ScanAccepts s bytes ∧ s.control.scanPos + 1 = s.journal.capacity)
    | .startupEnd => m.claimant = .control ∧ s.control.current = some (.update .final) ∧
      s.control.done + 1 = s.status.snapReads + 168
    | .statusUpdateComplete => m.claimant = .control ∧ s.control.current = some (.update .command) ∧
      s.control.done + 1 = s.status.snapReads + 200
    | _ => False

/-! #### Held cycles at the end of what holds them -/

/-- The causes of a hold that the end of COMMITTING or ABORTING, or a restore fault, lifts (R66, R70, R76, R77). -/
def HoldCause.liftedAtEnd : HoldCause → Bool
  | .commit | .abort | .spill | .pending => true
  | .memory | .append => false

/-- No cycle is held with such a cause. -/
def State.NoneToLift (s : State) : Prop :=
  ∀ c x, s.host.cycle = some c → c.cause = some x → x.liftedAtEnd = false

/-- A write is held with COMMIT or ABORT, or a read with SPILL or PENDING, and its timer runs. No staged read waits
for the cycle's end, and the update of the command that holds it is not asked for yet, as in every run (WorkLaw). -/
structure HeldToLift (s : State) (c : HostCycle) : Prop where
  cycle    : s.host.cycle = some c
  cause    : (c.isWrite = true ∧ (c.cause = some .commit ∨ c.cause = some .abort)) ∨
    (c.isWrite = false ∧ (c.cause = some .spill ∨ c.cause = some .pending))
  timer    : s.host.hold.isSome = true
  noFault  : s.host.hfault = false
  noAppend : s.journal.append = none
  noRead   : s.config.readWaits = false
  noUpdate : Sequence.update .command ∉ s.sequences

/-- The hold of a cycle is lifted in a state `u` in which COMMITTING or ABORTING has just ended, and `t` is what
comes of it: a read passes (R70); a write is judged again in READY or FAULTED, at the depth and by the tracker of
`u` (R66, R76 to R78, R80, R81). A cycle that then passes keeps its HWAIT to its end (assumption 8). The lift
asks for no sequence: an event of its fault is carried by the update of the command (R144). -/
structure HoldLifted (u t : State) (c : HostCycle) : Prop where
  sequences : t.sequences = u.sequences
  read  : c.isWrite = false → Passes u t c
  power : c.isWrite = true → u.warning = true → Refused u t .power c.addr
  write : ∀ mode g i, c.isWrite = true → u.warning = false → classify u c.addr = .window mode g i →
    mode ≠ .frozen →
    (u.txn.op = .faulted → Refused u t .faulted c.addr) ∧
    (u.txn.op = .ready → u.depth = 0 →
      (mode = .openMode → Passes u t { c with cls := .window mode g i }) ∧
      (mode = .framed → Refused u t .noFrame c.addr)) ∧
    (u.txn.op = .ready → 1 ≤ u.depth →
      if ∃ e ∈ u.tracker, e.granule = g ∧ e.depth = u.depth then
        Passes u t { c with cls := .window mode g i }
      else if u.journal.n < u.journal.capacity then
        Held u t { c with cls := .window mode g i } .append ∧
        t.journal = { u.journal with
          append := some (Machine.Append.mk c.addr c.data u.depth g u.journal.n 0 none) }
      else Refused u t .journalFull c.addr)

/-- What a piece of work leaves when it ends: `ends` says it of the state the step answers, where no cycle waits
for that end, and otherwise of the state in which the held cycle's hold is lifted, with the memory port free again. -/
def EndsAndLifts (s t : State) (ends : State → Prop) : Prop :=
  (s.NoneToLift → ends t) ∧
  ∀ c, HeldToLift s c → ∃ u, ends u ∧ u.host = s.host ∧
    u.port = { s.port with inFlight := none, claimControl := u.port.claimControl } ∧ HoldLifted u t c

/-! #### Updates -/

/-- The update a raise or a negation of the power warning asks for (R144): none where the start-up final update
(`startup`) or the update of the command in flight will still carry it, or where one is owed already; otherwise a
raise update is requested, and owed. `settled` says that no event-area write begins with this step. -/
def UpdateAsked (s t : State) (startup settled : Prop) : Prop :=
  let carried := startup ∨ s.status.owed = true ∨
    (s.command.inFlight.isSome = true ∧
      ¬(s.control.current = some (.update .command) ∧ s.status.areaBegun = true))
  (carried → t.sequences = s.sequences ∧ (settled → t.status.owed = s.status.owed)) ∧
  (¬carried → t.sequences = s.sequences ++ [.update .raise] ∧ (settled → t.status.owed = true))

end Sys2Proof.Machine
end

