-- ==== Sys2Proof/Certificates/Slice0/Obligations.lean ====
section
/-! DEFINITION. The statements about the 4120. A statement about a command says what the state it leaves holds
and what it leaves as it was; the invariants are the laws of Sys2Proof/Safety.lean. -/

open Sys2Proof Sys2Proof.Machine

/-! ### The step -/

/-- A step with a command at the front of the queue is that command's meaning, with the rest of the queue in
place. -/
def Obligations.StepRunsTheFront : Prop :=
  ∀ (c : Instr) (rest : List Instr) (s : State), s.pending = c :: rest →
    step s = exec c (s.setPending rest)

/-- With no command waiting a step is one cycle of CLK (the model's choice, assumption 9): nothing changes but a
hold timer that runs under a configured clock, whose count rises once in `clock` cycles (R83, R84); with no clock
configured that timer does not count. -/
def Obligations.IdleStepCountsTheHold : Prop :=
  ∀ s : State, s.pending = [] → s.resetting = false →
    (s.host.hold = none → step s = .next s) ∧
    (∀ t, s.host.hold = some t → t.clock = 0 → step s = .next s) ∧
    (∀ t, s.host.hold = some t → 0 < t.clock → t.phase + 1 < t.clock →
      step s = .next (s.setHost { s.host with hold := some { t with phase := t.phase + 1 } })) ∧
    (∀ t, s.host.hold = some t → 0 < t.clock → t.clock ≤ t.phase + 1 → t.limit ≠ t.count + 1 →
      step s = .next (s.setHost { s.host with hold := some { t with count := t.count + 1, phase := 0 } })) ∧
    (∀ t, s.host.hold = some t → 0 < t.clock → t.clock ≤ t.phase + 1 → t.limit = t.count + 1 →
      step s = exec .holdExpired s)

/-! ### Reset (Chapter 10) -/

/-- The values after reset of Tables 1-4, 4-2, 5-1, 6-1, 7-2, 8-1, 9-1 and 10-1 and of R171, in the state the model
starts from, which is the part while a reset lasts (assumption 1). -/
def Obligations.ResetStateHoldsTheTable : Prop :=
  let s := State.reset
  s.host.cycle = none ∧ s.host.hold = none ∧ s.host.hfault = false ∧
  s.decoder.control = none ∧ s.decoder.map = none ∧
  s.txn.op = .startup .loading ∧ s.txn.frames = [] ∧ s.txn.stage = .idle ∧
  s.txn.found = 0 ∧ s.txn.headerWritten = false ∧ s.txn.endState = none ∧
  s.journal.n = 0 ∧ s.journal.capacity = 0 ∧ s.journal.epoch = 0 ∧ s.journal.slot = none ∧
  s.journal.geometry = none ∧ s.journal.link = 0 ∧ s.tracker = [] ∧
  s.engine.run = .idle ∧ s.engine.cursor = none ∧ s.engine.stop = 0 ∧ s.engine.target = .all ∧
  s.engine.count = 0 ∧ s.engine.reason = none ∧ s.engine.reads = 0 ∧ s.engine.writes = 0 ∧
  s.engine.lastLink = 0 ∧
  s.port.inFlight = none ∧ s.port.claimHost = false ∧ s.port.claimControl = false ∧
  s.port.claimEngine = false ∧ s.port.yieldControl = 0 ∧ s.port.yieldEngine = 0 ∧
  s.port.yieldLimit = 8 ∧
  s.command.busy = true ∧ s.command.overrun = false ∧ s.command.seq = 0 ∧ s.command.inFlight = none ∧
  s.status.queue = [] ∧ s.status.dropped = 0 ∧ s.status.refused = 0 ∧ s.status.expired = 0 ∧
  s.status.startFaults = 0 ∧ s.status.snapshot = none ∧ s.status.owed = false ∧
  s.status.attention = false ∧
  s.config.loaded = none ∧ s.config.origin = none ∧ s.config.adopting = false ∧ s.config.progress = 0

/-- RESET_ASSERT gives every block its values after reset and keeps the memory, but for the byte of a write in
flight, which is left with its old or its new value; nothing waits to be done. That the strapped size keeps its
value until the reset ends, when it is sampled anew, is the model's choice (assumption 2). -/
def Obligations.ResetAssertClearsEveryBlock : Prop :=
  ∀ s : State, MemoryLaw s → ∃ t, exec .resetAssert s = .next t ∧
    t.resetting = true ∧
    t.host.cycle = none ∧ t.host.hold = none ∧ t.host.hfault = false ∧
    t.decoder.control = none ∧ t.decoder.map = none ∧
    t.txn = State.reset.txn ∧
    t.journal.n = 0 ∧ t.journal.capacity = 0 ∧ t.journal.epoch = 0 ∧ t.journal.slot = none ∧
    t.journal.geometry = none ∧ t.journal.link = 0 ∧ t.journal.append = none ∧ t.tracker = [] ∧
    t.engine.run = .idle ∧ t.engine.cursor = none ∧ t.engine.stop = 0 ∧ t.engine.target = .all ∧
    t.engine.count = 0 ∧ t.engine.reason = none ∧ t.engine.reads = 0 ∧ t.engine.writes = 0 ∧
    t.engine.lastLink = 0 ∧
    t.port = { State.reset.port with strap := s.port.strap } ∧
    t.control.current = none ∧ t.control.waiting = [] ∧
    t.cbusy = true ∧ t.rdy = false ∧ t.attn = false ∧ t.hwait = false ∧
    t.command.overrun = false ∧ t.command.seq = 0 ∧ t.command.inFlight = none ∧
    t.status.queue = [] ∧ t.status.dropped = 0 ∧ t.status.refused = 0 ∧ t.status.expired = 0 ∧
    t.status.startFaults = 0 ∧ t.status.snapshot = none ∧ t.status.owed = false ∧
    t.config.loaded = none ∧ t.config.origin = none ∧ t.config.adopting = false ∧
    t.config.progress = 0 ∧
    (∀ a, t.mem.read a = s.mem.read a ∨
      ∃ m, s.port.inFlight = some m ∧ m.isWrite = true ∧ m.addr.toNat = a ∧ t.mem.read a = m.data)

/-- RESET_END samples the straps by Table 6-3, PWARN# and CSTRB and enters LOADING with the first read of the
primary configuration slot in flight (begun at once, by the model's inference, assumption 14); a low PWARN# is an
assertion and raises POWER_WARNING. -/
def Obligations.ResetEndSamplesAndBeginsLoading : Prop :=
  (∀ msz : BitVec 3, strapSize msz =
    if msz = 0 then 64 else if msz = 1 then 128 else if msz = 2 then 256 else if msz = 3 then 512 else 1024) ∧
  ∀ (s : State) (msz : BitVec 3) (pwarnHigh cstrbHigh : Bool),
    s.resetting = true → s.port.inFlight = none → s.port.claimHost = false →
    s.port.claimControl = false → s.port.claimEngine = false →
    s.control.current = none → s.control.waiting = [] →
    ∃ t, exec (.resetEnd msz pwarnHigh cstrbHigh) s = .next t ∧
      t.resetting = false ∧ t.port.strap = strapSize msz ∧ t.command.strobe = cstrbHigh ∧
      t.warning = !pwarnHigh ∧ t.txn.op = .startup .loading ∧
      t.control.current = some (.configRead .primary) ∧
      t.port.inFlight = some { claimant := .control, isWrite := false, data := 0,
                               addr := BitVec.ofNat 20 (strapSize msz * 1024 - 512 + 0x40) } ∧
      t.status.queue = (if pwarnHigh then s.status.queue
        else (takeRaise s.status .powerWarning .none none).queue) ∧
      t.txn.frames = s.txn.frames ∧ t.journal = s.journal ∧ t.tracker = s.tracker ∧
      t.engine = s.engine ∧ t.config.loaded = s.config.loaded ∧ t.decoder = s.decoder ∧
      t.host.cycle = s.host.cycle ∧ SameMemory s t

/-! ### The power warning (Chapter 10) -/

/-- An assertion of the power warning raises its event and leaves the operating state, the depth, the journal
unit's items, the tracker, the loaded configuration and the memory as they stand (R185); of the frames only the
top one's short flag may change. Where it ends no host write at once, POWER_WARNING is the one event raised and no
counter rises. A running engine with no memory cycle of its own in flight is suspended with its progress kept, its
claim withdrawn and its yield counter 0; otherwise the engine is as it was (R102, R118; that the suspension comes
at once when no cycle of the engine is in flight is the model's inference, assumption 15). -/
def Obligations.WarningAssertionKeepsTheWork : Prop :=
  ∀ s : State, s.resetting = false → s.warning = false →
    ∃ t, exec .powerWarningAssert s = .next t ∧ t.warning = true ∧
      t.txn.op = s.txn.op ∧ t.txn.stage = s.txn.stage ∧
      (t.txn.frames = s.txn.frames ∨ t.txn.frames = markTopShort s.txn.frames) ∧
      t.journal.n = s.journal.n ∧ t.journal.capacity = s.journal.capacity ∧
      t.journal.epoch = s.journal.epoch ∧ t.journal.slot = s.journal.slot ∧
      t.journal.geometry = s.journal.geometry ∧ t.journal.link = s.journal.link ∧
      t.tracker = s.tracker ∧ t.config.loaded = s.config.loaded ∧ t.decoder = s.decoder ∧
      SameCommand s t ∧ SameMemory s t ∧
      (s.engine.run = .running → s.inFlightFor .engine = false →
        t.engine = { s.engine with run := .suspended } ∧ t.port.claimEngine = false ∧
        t.port.yieldEngine = 0) ∧
      (s.engine.run ≠ .running ∨ s.inFlightFor .engine = true → t.engine = s.engine) ∧
      ((∀ c, s.host.cycle = some c → c.isWrite = true →
          c.cause ≠ some .memory ∧ c.cause ≠ some .abort ∧
          (c.cause = some .append → s.inFlightFor .host = true)) →
        t.status.queue = (takeRaise s.status .powerWarning .none none).queue ∧
        t.status.dropped = (takeRaise s.status .powerWarning .none none).dropped ∧
        t.txn.frames = s.txn.frames ∧ SameCounters s t)

/-- What an assertion does to a host write in progress, by where it stands (R81, R184). Outside STARTUP one held
with cause MEMORY or ABORT, or with cause APPEND and no cycle of the append in flight, ends with a fault and is
counted, with the top frame marked short outside COMMITTING and the events of the write and of the warning raised
in either order (R152). An append with a cycle in flight is to be abandoned for POWER at that cycle's end, unless a
cause was recorded before, and goes on when the cycle is its host byte's (R19). One held with cause COMMIT stays
held, and one whose memory cycle has been granted goes on. In STARTUP one held with cause MEMORY is faulted and
counted there. The end asks for a staged-slot read that waited for it (R161). (That an
append with no cycle in flight is abandoned at once is the model's inference, assumption 15.) -/
def Obligations.WarningAndTheHostWrite : Prop :=
  ∀ (s : State) (c : HostCycle), s.resetting = false → s.warning = false →
    s.host.cycle = some c → c.isWrite = true →
    let warned := takeRaise s.status .powerWarning .none none
    let G := s.geometry.granule
    ∃ t, exec .powerWarningAssert s = .next t ∧
      (s.txn.op.isStartup = false → (c.cause = some .memory ∨ c.cause = some .abort ∨
          (c.cause = some .append ∧ s.journal.append.isSome = true ∧ s.inFlightFor .host = false)) →
        t.host.cycle = none ∧ t.hwait = false ∧ t.hfault = true ∧ StagedReadReleased s t ∧ t.journal.append =
          (if c.cause = some .append then none else s.journal.append) ∧
        (c.cause ≠ some .abort → t.port.claimHost = false) ∧
        t.status.refused = sat16 s.status.refused ∧ t.status.expired = s.status.expired ∧
        t.status.startFaults = s.status.startFaults ∧
        t.txn.frames = (if s.txn.op = .committing then s.txn.frames else markTopShort s.txn.frames) ∧
        ((t.status.queue = (refusalEvent warned .power c.addr).queue ∧
            t.status.dropped = (refusalEvent warned .power c.addr).dropped) ∨
          (t.status.queue = (takeRaise (refusalEvent s.status .power c.addr) .powerWarning .none none).queue ∧
            t.status.dropped =
              (takeRaise (refusalEvent s.status .power c.addr) .powerWarning .none none).dropped))) ∧
      (∀ a, c.cause = some .append → s.journal.append = some a → s.inFlightFor .host = true →
        t.host.cycle = some c ∧ t.txn = s.txn ∧ SameCounters s t ∧
        t.status.queue = warned.queue ∧ t.status.dropped = warned.dropped ∧
        t.journal = (if a.progress = G + (G + 10) then s.journal
          else { s.journal with append := some { a with abandon := some (a.abandon.getD .power) } })) ∧
      ((c.cause = some .commit ∨ c.cause = none) →
        t.host.cycle = s.host.cycle ∧ t.txn = s.txn ∧ t.journal = s.journal ∧ SameCounters s t ∧
        t.status.queue = warned.queue ∧ t.status.dropped = warned.dropped) ∧
      (s.txn.op.isStartup = true → c.cause = some .memory →
        t.host.cycle = none ∧ t.hwait = false ∧ t.hfault = true ∧ t.port.claimHost = false ∧
        StagedReadReleased s t ∧
        t.status.startFaults = sat16 s.status.startFaults ∧ t.status.refused = s.status.refused ∧
        t.status.expired = s.status.expired ∧ t.txn = s.txn ∧ t.journal = s.journal ∧
        t.status.queue = warned.queue ∧ t.status.dropped = warned.dropped)

/-- A negation of the power warning resumes a suspended run with the claim its progress names, raises no event and
changes nothing else of the blocks' work (R103, R183, R185). It asks for an update as a raise does (R144): in
STARTUP the final update carries it unless its live-state record has begun (R184), the update of the command in
flight carries it unless that one's event-area write has begun, an owed update carries it, and otherwise a raise
update is requested and owed. -/
def Obligations.WarningNegationResumes : Prop :=
  ∀ s : State, s.resetting = false → s.warning = true →
    ∃ t, exec .powerWarningNegate s = .next t ∧ t.warning = false ∧
      (s.engine.run = .suspended → s.engine.cursor.isSome = true →
        t.engine = { s.engine with run := .running } ∧
        (t.port.claimEngine = true ∨ t.inFlightFor .engine = true)) ∧
      (s.engine.run ≠ .suspended → t.engine = s.engine) ∧
      t.txn = s.txn ∧ t.journal = s.journal ∧ t.tracker = s.tracker ∧ t.decoder = s.decoder ∧
      t.config.loaded = s.config.loaded ∧ t.status.queue = s.status.queue ∧
      t.status.dropped = s.status.dropped ∧ t.status.refused = s.status.refused ∧ SameMemory s t ∧
      UpdateAsked s t
        (s.txn.op.isStartup = true ∧
          ¬(s.control.current = some (.update .final) ∧ s.status.liveBegun = true))
        (s.port.inFlight.isSome = true ∨ s.port.claimControl = false)

/-! ### Laws that hold at reset and that every step keeps -/

/-- The state after reset meets every law. -/
def Obligations.LawsHoldAtReset : Prop :=
  MemoryLaw State.reset ∧ QueueLaw State.reset ∧ CounterLaw State.reset ∧ ResetLaw State.reset ∧
  HostLaw State.reset ∧ WorkLaw State.reset ∧ EngineLaw State.reset ∧ FrameLaw State.reset ∧
  TrackerLaw State.reset ∧ PortLaw State.reset ∧ SequenceLaw State.reset

/-- Every step keeps the laws of the single blocks: the memory's canonical form; the event queue within its bounds,
with no two entries of one kind and the dropped counter nonzero only beside an entry (R149, R151, R153); the
counters at or below their ends (R88, R116); and, while a reset lasts, every block at its values after reset
(R170; for the items with no defined content, at the values of assumption 2). -/
def Obligations.EveryStepKeepsTheBlockLaws : Prop :=
  ∀ s t : State, step s = .next t →
    (MemoryLaw s → MemoryLaw t) ∧ (QueueLaw s → QueueLaw t) ∧ (CounterLaw s → CounterLaw t) ∧
    (ResetLaw s → ResetLaw t)

/-- Every step keeps the host port's law: among its parts, a write that passes is never to the journal region,
to the control area outside the staged slot or to a FROZEN window (R72), and HWAIT lasts only while a cycle is
in progress (R84). With the laws of the work in hand it keeps the memory port's law: after any step, where a claim
stands a memory cycle is in flight (R112, R115). -/
def Obligations.EveryStepKeepsTheHostCycleSound : Prop :=
  ∀ s t : State, HostLaw s → step s = .next t →
    HostLaw t ∧ (ResetLaw s → WorkLaw s → EngineLaw s → PortLaw s → PortLaw t)

/-- Every step keeps the laws of the work in hand and of the restore engine: one sequence besides status updates
at a time, none beside a run, each belonging to the operating state, and the engine STOPPED only for FAULTED. With
them it keeps the law of the sequence in progress, so that every sequence has been begun with the values its rule
gives it (R145, R146, R155, R175). -/
def Obligations.EveryStepKeepsOnePieceOfWork : Prop :=
  ∀ s t : State, ResetLaw s → WorkLaw s → EngineLaw s → step s = .next t →
    WorkLaw t ∧ EngineLaw t ∧ (SequenceLaw s → SequenceLaw t)

/-- Every step keeps the frame stack's law: start indexes do not decrease upward and do not exceed N (R24, R26),
and no frame is open where the state has none. -/
def Obligations.EveryStepKeepsTheFrameStackOrdered : Prop :=
  ∀ s t : State, ResetLaw s → WorkLaw s → EngineLaw s → FrameLaw s → step s = .next t → FrameLaw t

/-- Every step keeps the tracker's law: a set of granule and depth pairs, each for an open frame and a record that
frame owns or has taken over (R47, R51, R54, R55, R56). -/
def Obligations.EveryStepKeepsTheTrackerWithinTheFrames : Prop :=
  ∀ s t : State, ResetLaw s → WorkLaw s → EngineLaw s → FrameLaw s → TrackerLaw s →
    step s = .next t → TrackerLaw t

/-- No command changes a byte of memory but the end of a memory write cycle, which changes its own byte to the
byte it carries (R112); a reset may let the write in flight land (R111). -/
def Obligations.MemoryChangesOnlyAtTheWriteInFlight : Prop :=
  ∀ (c : Instr) (s t : State) (a : Nat), MemoryLaw s → exec c s = .next t →
    t.mem.read a ≠ s.mem.read a →
    ∃ m, s.port.inFlight = some m ∧ m.isWrite = true ∧ m.addr.toNat = a ∧ t.mem.read a = m.data

/-- Each row named for the end of one kind of memory cycle is the end of the memory cycle in flight when that is
the cycle it names (R112), by the claimant, the sequence and the cycles done; with any other cycle in flight, or
none, it leaves the state as it is (the model's choice, assumption 13). -/
def Obligations.CycleRowsAreTheEndOfTheCycle : Prop :=
  ∀ (c : Instr) (s : State),
    c ∈ [Instr.appendComplete, .restoreRecordRead, .restoreStepComplete, .voidMarkWritten, .headerSlotsRead,
         .epochAdvanceComplete, .configSlotReadComplete, .configSlotWriteComplete, .scanEnd, .startupEnd,
         .statusUpdateComplete] →
    (CycleNamed c s → exec c s = exec .memoryCycleComplete s) ∧
    (¬CycleNamed c s → exec c s = .next s)

/-! ### Host cycles (Chapter 4) -/

/-- A host read passes in READY, SETUP, COMMITTING, FAULTED and UNCONFIGURED whatever its class; outside the
windows it passes in ABORTING and, after LOADING, in STARTUP (R69, R79). That the divider of a new hold's time base
starts at phase 0 is the model's choice, assumption 9, for R83 does not say. -/
def Obligations.HostReadPasses : Prop :=
  ∀ (s : State) (addr : Addr), HostFree s →
    (s.txn.op ≠ .aborting ∧ s.txn.op.isStartup = false) ∨
      (s.txn.op ≠ .startup .loading ∧ ∀ mode g i, classify s addr ≠ .window mode g i) →
    ∃ t, exec (.hostRead addr) s = .next t ∧ Passes s t (taken s addr false 0)

/-- A read of a window in ABORTING is held for the whole abort where a frame from the target up has spilled or
none is open, is held while its granule is pending otherwise, and passes when it is not (R70; no frame is open in the
abort of an UNWIND retried at depth 0, by the model's inference, assumption 22). That the divider of a new hold's
time base starts at phase 0 is the model's choice, assumption 9, for R83 does not say. -/
def Obligations.HostReadInAborting : Prop :=
  ∀ (s : State) (addr : Addr) (mode : WindowMode) (g i : Nat), HostFree s → s.txn.op = .aborting →
    classify s addr = .window mode g i →
    ∃ t, exec (.hostRead addr) s = .next t ∧
      (if s.depth = 0 ∨
          (s.txn.frames.take (s.depth + 1 - s.engine.target.level)).any (fun f => f.spill) = true
       then Held s t (taken s addr false 0) .spill
       else if ∃ e ∈ s.tracker, e.granule = g ∧ e.pending = true
       then Held s t (taken s addr false 0) .pending
       else Passes s t (taken s addr false 0))

/-- In STARTUP every cycle in LOADING is faulted, and after it every read of a window, every write of a class
other than UNGUARDED and every write under the power warning (R79). -/
def Obligations.StartupFaultsCycles : Prop :=
  ∀ (s : State) (p : Phase) (addr : Addr) (data : Byte), HostFree s → s.txn.op = .startup p →
    ((p = .loading ∨ ∃ mode g i, classify s addr = .window mode g i) →
      ∃ t, exec (.hostRead addr) s = .next t ∧ StartFaulted s t) ∧
    ((p = .loading ∨ s.warning = true ∨ classify s addr ≠ .unguarded) →
      ∃ t, exec (.hostWrite addr data) s = .next t ∧ StartFaulted s t)

/-- A write of class UNGUARDED passes in the six states outside STARTUP at any depth, is judged by R80 under the
power warning, and by R79 in STARTUP (R71). That the divider of a new hold's time base starts at phase 0 is the
model's choice, assumption 9, for R83 does not say. -/
def Obligations.UnguardedWritePasses : Prop :=
  ∀ (s : State) (addr : Addr) (data : Byte), HostFree s → classify s addr = .unguarded →
    ∃ t, exec (.hostWrite addr data) s = .next t ∧
      (s.warning = false → s.txn.op ≠ .startup .loading → Passes s t (taken s addr true data)) ∧
      (s.warning = true → s.txn.op.isStartup = false → Refused s t .power addr) ∧
      (s.warning = true ∨ s.txn.op = .startup .loading → s.txn.op.isStartup = true → StartFaulted s t)

/-- A write to the control area, the journal region or a FROZEN window is refused with the reason of its class,
but for a write to the staged slot in SETUP with no ADOPT executing, which passes (R72). That the divider of a new
hold's time base starts at phase 0 is the model's choice, assumption 9, for R83 does not say. -/
def Obligations.GuardedWriteIsRefused : Prop :=
  ∀ (s : State) (addr : Addr) (data : Byte), HostFree s → s.txn.op.isStartup = false →
    s.warning = false →
    ∃ t, exec (.hostWrite addr data) s = .next t ∧
      (∀ staged, classify s addr = .control staged →
        (staged = true ∧ s.txn.op = .setup ∧ s.config.adopting = false →
          Passes s t (taken s addr true data)) ∧
        (staged = false ∨ s.txn.op ≠ .setup ∨ s.config.adopting = true → Refused s t .control addr)) ∧
      (classify s addr = .journal → Refused s t .journal addr) ∧
      (∀ g i, classify s addr = .window .frozen g i → Refused s t .frozen addr)

/-- A write to an OPEN or FRAMED window where no append can be made: with no frame open it passes to an OPEN
window and is refused with NO_FRAME at a FRAMED one (R73, R75); it is held in COMMITTING and in ABORTING
(R76, R77) and refused with FAULTED in FAULTED (R78). That the divider of a new hold's time base starts at phase 0
is the model's choice, assumption 9, for R83 does not say. -/
def Obligations.JournaledWriteOutsideAFrame : Prop :=
  ∀ (s : State) (addr : Addr) (data : Byte) (mode : WindowMode) (g i : Nat), HostFree s →
    s.warning = false → classify s addr = .window mode g i → mode ≠ .frozen →
    ∃ t, exec (.hostWrite addr data) s = .next t ∧
      ((s.txn.op = .ready ∧ s.depth = 0) ∨ s.txn.op = .setup ∨ s.txn.op = .unconfigured →
        (mode = .openMode → Passes s t (taken s addr true data)) ∧
        (mode = .framed → Refused s t .noFrame addr)) ∧
      (s.txn.op = .committing → Held s t (taken s addr true data) .commit ∧ t.journal = s.journal) ∧
      (s.txn.op = .aborting → Held s t (taken s addr true data) .abort ∧ t.journal = s.journal) ∧
      (s.txn.op = .faulted → Refused s t .faulted addr)

/-- A write to an OPEN or FRAMED window in READY with a frame open (R16, R21, R49, R74): on a hit it passes; on a
miss with N below C an append at position N is in flight and the write is held with cause APPEND; on a miss with
N at C it is refused with JOURNAL_FULL. That the divider of a new hold's time base starts at phase 0 is the model's
choice, assumption 9, for R83 does not say. -/
def Obligations.JournaledWriteInAFrame : Prop :=
  ∀ (s : State) (addr : Addr) (data : Byte) (mode : WindowMode) (g i : Nat), HostFree s →
    s.warning = false → s.txn.op = .ready → 1 ≤ s.depth →
    classify s addr = .window mode g i → mode ≠ .frozen →
    ∃ t, exec (.hostWrite addr data) s = .next t ∧
      (if ∃ e ∈ s.tracker, e.granule = g ∧ e.depth = s.depth then Passes s t (taken s addr true data)
       else if s.journal.n < s.journal.capacity then
         Held s t (taken s addr true data) .append ∧
         t.journal = { s.journal with
           append := some (Machine.Append.mk addr data s.depth g s.journal.n 0 none) } ∧
         (t.port.claimHost = true ∨ (0 < s.geometry.granule → t.port.inFlight = some
           { claimant := .host, addr := BitVec.ofNat 20 (g * s.geometry.granule), isWrite := false,
             data := 0 }))
       else Refused s t .journalFull addr)

/-- Under the power warning every write outside STARTUP is refused with POWER, whatever its class (R80). -/
def Obligations.PowerWarningRefusesEveryWrite : Prop :=
  ∀ (s : State) (addr : Addr) (data : Byte), HostFree s → s.txn.op.isStartup = false →
    s.warning = true →
    ∃ t, exec (.hostWrite addr data) s = .next t ∧ Refused s t .power addr

/-- When the host ends its cycle on the bus HFAULT is negated and nothing else changes, whatever else goes on (R68;
that a cycle still held or in progress is then not dropped is the model's choice, assumption 4). -/
def Obligations.HostCycleReleaseNegatesHfault : Prop :=
  ∀ s : State, ∃ t, exec .hostCycleRelease s = .next t ∧ t.hfault = false ∧
    t = s.setHost { s.host with hfault := false }

/-- The hold timer reaching its limit ends a held cycle that has no append in flight with a fault: outside STARTUP
it is counted and raised as HOLD_EXPIRED with its address and a write marks the top frame short; in STARTUP it is
counted as a start-up fault and nothing else (R85, R181). A claim with cause MEMORY is withdrawn, and a staged-slot
read that waited for this end is asked for (R161). The end comes at
once, also while a memory cycle of another claimant is in flight; that no boundary of that cycle is awaited is the
model's inference (assumption 15). -/
def Obligations.HoldExpiryEndsTheCycle : Prop :=
  ∀ (s : State) (c : HostCycle) (x : HoldCause) (h : HoldTimer), s.resetting = false →
    s.host.cycle = some c → c.cause = some x → x ≠ .append →
    s.host.hold = some h → h.limit ≠ 0 → h.count < h.limit →
    ∃ t, exec .holdExpired s = .next t ∧
      t.host.cycle = none ∧ t.hwait = false ∧ t.hfault = true ∧
      (x = .memory → t.port.claimHost = false) ∧
      t.status.refused = s.status.refused ∧ t.journal = s.journal ∧ HostCycleFrame s t ∧
      StagedReadReleased s t ∧
      (s.txn.op.isStartup = false →
        t.status.expired = sat16 s.status.expired ∧ t.status.startFaults = s.status.startFaults ∧
        t.status.queue = (takeRaise s.status .holdExpired .none (some c.addr.toNat)).queue ∧
        t.status.dropped = (takeRaise s.status .holdExpired .none (some c.addr.toNat)).dropped ∧
        t.txn = { s.txn with frames := if c.isWrite then s.framesAfterFault else s.txn.frames }) ∧
      (s.txn.op.isStartup = true →
        t.status.startFaults = sat16 s.status.startFaults ∧ t.status.expired = s.status.expired ∧
        t.status.queue = s.status.queue ∧ t.txn = s.txn)

/-- Hold expiry on a cycle that performs its memory cycle, a read or a write in any state, is void: the cycle goes on,
nothing is raised or counted, and only the timer stands at its limit (R86; that the row brings it there is
assumption 9). On an append (R19, R85, R86) expiry is void in the same way once the host byte's cycle is granted; it
is recorded for the next boundary while another of the append's cycles is in flight, unless a cause was recorded
before; and otherwise the append is gone with N and the chain link as they were, the write ends with a fault, and
the expiry is counted and raised as HOLD_EXPIRED with the address (at once when none of its cycles is in flight, by
the model's inference, assumption 15). -/
def Obligations.HoldExpiryOnAnAppend : Prop :=
  ∀ (s : State) (c : HostCycle) (h : HoldTimer), s.resetting = false →
    s.host.cycle = some c → s.host.hold = some h → h.limit ≠ 0 → h.count < h.limit →
    let void := fun t : State =>
      t.host = { s.host with hold := some { h with count := h.limit, phase := 0 } } ∧ t.journal = s.journal ∧
      t.txn = s.txn ∧ t.sequences = s.sequences ∧ SameReports s t
    (c.cause = none → ∃ t, exec .holdExpired s = .next t ∧ HostCycleFrame s t ∧ void t) ∧
    (∀ a : Machine.Append, c.cause = some .append → s.journal.append = some a → c.isWrite = true →
      s.txn.op = .ready →
      ∃ t, exec .holdExpired s = .next t ∧ HostCycleFrame s t ∧
        (s.inFlightFor .host = true → a.progress = s.geometry.granule + (s.geometry.granule + 10) → void t) ∧
        (s.inFlightFor .host = true → a.progress ≠ s.geometry.granule + (s.geometry.granule + 10) →
          t.host.cycle = some c ∧ t.txn = s.txn ∧ SameReports s t ∧
          t.journal = { s.journal with append := some { a with abandon := some (a.abandon.getD .expiry) } }) ∧
        (s.inFlightFor .host = false →
          t.host.cycle = none ∧ t.hwait = false ∧ t.hfault = true ∧
          t.port.claimHost = false ∧ t.journal = { s.journal with append := none } ∧ StagedReadReleased s t ∧
          t.txn = { s.txn with frames := markTopShort s.txn.frames } ∧
          t.status.expired = sat16 s.status.expired ∧ t.status.refused = s.status.refused ∧
          t.status.startFaults = s.status.startFaults ∧
          t.status.queue = (takeRaise s.status .holdExpired .none (some c.addr.toNat)).queue ∧
          t.status.dropped = (takeRaise s.status .holdExpired .none (some c.addr.toNat)).dropped))

/-- The memory cycle of a passing host cycle ends: the host cycle ends normally, a read with the byte at its
address, a write with its byte in memory (R67, R68, R112). The read of the staged slot that waited for this end is
asked for, and begins at an idle control unit (R161; assumption 14). The next grant is decided after these effects
(R112, R115). -/
def Obligations.PassingHostCycleEnds : Prop :=
  ∀ (s : State) (c : HostCycle) (m : MemCycle), CycleDue s .host m → s.journal.append = none →
    s.host.cycle = some c → m.isWrite = c.isWrite →
    ∃ t, exec .memoryCycleComplete s = .next t ∧
      t.host = { cycle := none, hold := none, hfault := false,
                 data := if c.isWrite then s.host.data else s.mem.read m.addr.toNat } ∧
      MemoryAfter s t m ∧ SameReports s t ∧ SameCommand s t ∧ Surroundings s t ∧ t.txn = s.txn ∧
      t.journal = s.journal ∧ t.tracker = s.tracker ∧ t.engine = s.engine ∧
      t.sequences = s.sequences ++ (if s.config.readWaits = true then [.configRead .staged] else []) ∧
      t.config = { s.config with
        readWaits := false
        progress := if s.config.readWaits = true ∧ s.sequences = [] then 0 else s.config.progress } ∧
      (s.config.readWaits = false → t = arbitrate ((landCycle s m).setHost t.host))

/-! ### Appends (Chapter 1) and the tracker (Chapter 3) -/

/-- The memory cycles a claimant's claim is for. An append, by how many of its cycles are done: the reads of the
granule, the writes of the record from its tag to its check code at position p, and the host byte last (R3, R4,
R17). The restore engine: the reads of the record at the cursor, then the writes of its payload bytes back to its
granule (R92, R95). The control unit, by its sequence: with or without a header in force, a header's bytes in
ascending order to its slot (R13, R190), the reads of both header slots from slot A on (R15, R174), and the 64 bytes
of a configuration slot (R165, R172, Table 11-1); and with the geometry in force the VOID tag at position N (R23) and
the scan's next byte (R175). An update: its snapshot reads, then the snapshot
number, the captured body and the number again as the live-state record, then the captured event area from its
entries to its last field, then the result record (R146, R148, R191, R192). -/
def Obligations.AppendCyclesInOrder : Prop :=
  (∀ (s : State) (a : Machine.Append) (g : Geometry), s.journal.append = some a → s.journal.geometry = some g →
    let G := g.granule
    let body : List Byte := [0xA5, byteOf a.depth, byteOf a.granule, byteOf (a.granule / 256),
      byteOf a.index, byteOf (a.index / 256), s.journal.link.extractLsb' 0 8,
      s.journal.link.extractLsb' 8 8] ++ s.journal.payload
    let check := crc (epochSeed s.journal.epoch) body
    let record := body ++ [check.extractLsb' 0 8, check.extractLsb' 8 8]
    (a.progress < G → hostCycle s = some
      { claimant := .host, addr := BitVec.ofNat 20 (a.granule * G + a.progress), isWrite := false,
        data := 0 }) ∧
    (∀ j, j < G + 10 → a.progress = G + j → hostCycle s = some
      { claimant := .host, addr := BitVec.ofNat 20 (g.base * 1024 + a.index * (G + 10) + j),
        isWrite := true, data := record.getD j 0 }) ∧
    (a.progress = G + (G + 10) → hostCycle s = some
      { claimant := .host, addr := a.addr, isWrite := true, data := a.data })) ∧
  (∀ (s : State) (p : Nat) (g : Geometry), s.engine.cursor = some p → s.journal.geometry = some g →
    let G := g.granule
    let number := (byteAt s.engine.buffer 2).toNat + 256 * (byteAt s.engine.buffer 3).toNat
    (s.engine.reads < G + 10 → engineCycle s = some
      { claimant := .engine, addr := BitVec.ofNat 20 (g.base * 1024 + p * (G + 10) + s.engine.reads),
        isWrite := false, data := 0 }) ∧
    (G + 10 ≤ s.engine.reads → engineCycle s = some
      { claimant := .engine, addr := BitVec.ofNat 20 (number * G + s.engine.writes), isWrite := true,
        data := byteAt s.engine.buffer (8 + s.engine.writes) })) ∧
  (∀ (s : State) (k : Sequence), s.control.current = some k →
    let area := s.port.strap * 1024 - 512
    let done := s.control.done
    let read := fun (a : Nat) => some
      { claimant := .control, addr := BitVec.ofNat 20 a, isWrite := false, data := 0 : MemCycle }
    let write := fun (a : Nat) (b : Byte) => some
      { claimant := .control, addr := BitVec.ofNat 20 a, isWrite := true, data := b : MemCycle }
    (∀ x epoch h, k = .headerWrite x epoch h →
      let body : List Byte := [0x47, 0xE2, epoch.extractLsb' 0 8, epoch.extractLsb' 8 8,
        epoch.extractLsb' 16 8, epoch.extractLsb' 24 8, byteOf h.base, byteOf (h.base / 256),
        byteOf h.length, byteOf (h.length / 256), byteOf h.granule, 0, h.serial.extractLsb' 0 8,
        h.serial.extractLsb' 8 8]
      let check := crc 0xFFFF body
      controlCycle s = write (area + (if x = .a then 0xC0 else 0xD0) + done)
        ((body ++ [check.extractLsb' 0 8, check.extractLsb' 8 8]).getD done 0)) ∧
    (k = .headerRead → controlCycle s = read (area + 0xC0 + done)) ∧
    (∀ slot, k = .configRead slot → controlCycle s = read (area + s.config.progress +
      (match slot with | .staged => 0 | .primary => 0x40 | .secondary => 0x80))) ∧
    (∀ slot, k = .configWrite slot → controlCycle s = write (area + s.config.progress +
      (match slot with | .staged => 0 | .primary => 0x40 | .secondary => 0x80))
      (byteAt s.config.buffer s.config.progress)) ∧
    (∀ g : Geometry, s.journal.geometry = some g →
      (k = .voidMark →
        controlCycle s = write (g.base * 1024 + s.journal.n * (g.granule + 10)) 0x5A) ∧
      (k = .scan → controlCycle s =
        read (g.base * 1024 + s.control.scanPos * (g.granule + 10) + s.control.buffer.length)))) ∧
  (∀ (s : State) (kind : UpdateKind), s.control.current = some (.update kind) →
    let area := s.port.strap * 1024 - 512
    let st := s.status
    let number : List Byte := [st.number.extractLsb' 0 8, st.number.extractLsb' 8 8,
      st.number.extractLsb' 16 8, st.number.extractLsb' 24 8]
    let write := fun (a : Nat) (b : Byte) => some
      { claimant := .control, addr := BitVec.ofNat 20 a, isWrite := true, data := b : MemCycle }
    (s.control.done < st.snapReads → controlCycle s = some
      { claimant := .control, addr := BitVec.ofNat 20 (area + 0x13C + s.control.done), isWrite := false,
        data := 0 }) ∧
    (∀ j, s.control.done = st.snapReads + j →
      (j < 4 → controlCycle s = write (area + 0x100 + j) (number.getD j 0)) ∧
      (4 ≤ j → j < 60 → controlCycle s = write (area + 0x100 + j) (byteAt st.body (j - 4))) ∧
      (60 ≤ j → j < 64 → controlCycle s = write (area + 0x100 + j) (number.getD (j - 60) 0)) ∧
      (64 ≤ j → j < 160 → controlCycle s = write (area + 0x148 + (j - 64)) (byteAt st.area (j - 64))) ∧
      (160 ≤ j → j < 168 → controlCycle s = write (area + 0x140 + (j - 160)) (byteAt st.area (j - 64))) ∧
      (168 ≤ j → controlCycle s = write (area + 0xE0 + (j - 168)) (byteAt st.record (j - 168)))))

/-- A memory cycle of an append that is not its host byte's ends (R17, R19): a byte read joins the payload buffer
at its place; the append goes on to its next cycle, or, with a cause to abandon it recorded, is gone with N, the
chain link and the tracker as they were and the write ended with a fault. -/
def Obligations.AppendGoesOnOrIsAbandoned : Prop :=
  ∀ (s : State) (c : HostCycle) (m : MemCycle) (a : Machine.Append), CycleDue s .host m →
    s.journal.append = some a → a.progress ≠ s.geometry.granule + (s.geometry.granule + 10) →
    s.host.cycle = some c → c.cause = some .append → c.isWrite = true → s.txn.op = .ready →
    let payload := if a.progress < s.geometry.granule
      then s.journal.payload.take a.progress ++ [if m.isWrite then m.data else s.mem.read m.addr.toNat]
      else s.journal.payload
    ∃ t, exec .memoryCycleComplete s = .next t ∧ MemoryAfter s t m ∧ t.tracker = s.tracker ∧
      SameCommand s t ∧ Surroundings s t ∧ t.engine = s.engine ∧
      (a.abandon = none →
        t.journal = { s.journal with payload := payload,
                                     append := some { a with progress := a.progress + 1 } } ∧
        t.host.cycle = some c ∧ t.txn = s.txn ∧ SameReports s t ∧
        (t.port.claimHost = true ∨ t.inFlightFor .host = true)) ∧
      (∀ x, a.abandon = some x →
        t.journal = { s.journal with payload := payload, append := none } ∧
        t.host.cycle = none ∧ t.hwait = false ∧ t.hfault = true ∧ t.port.claimHost = false ∧
        t.txn = { s.txn with frames := markTopShort s.txn.frames } ∧
        (x = .power → t.status.refused = sat16 s.status.refused ∧
          t.status.expired = s.status.expired ∧
          t.status.queue = (takeRaise s.status .writeRefused (.refusal .power)
            (some c.addr.toNat)).queue) ∧
        (x = .expiry → t.status.expired = sat16 s.status.expired ∧
          t.status.refused = s.status.refused ∧
          t.status.queue = (takeRaise s.status .holdExpired .none (some c.addr.toNat)).queue))

/-- An append completes when its host byte is written (R18): N is the reserved position plus 1, the chain link the
record's check code, the host cycle ends normally, and the tracker takes the entry or, at 64 entries, spills: the
top frame's spill flag is set and TRACKER_SPILL raised with the depth (R46, R51, R52). -/
def Obligations.AppendCompletes : Prop :=
  ∀ (s : State) (c : HostCycle) (m : MemCycle) (a : Machine.Append), CycleDue s .host m →
    s.journal.append = some a → a.progress = s.geometry.granule + (s.geometry.granule + 10) →
    s.journal.payload.length = s.geometry.granule → s.host.cycle = some c → c.isWrite = true →
    ∃ t, exec .appendComplete s = .next t ∧ MemoryAfter s t m ∧
      t.journal = { s.journal with
        n := a.index + 1, append := none,
        link := crc (epochSeed s.journal.epoch)
          (recordBody a.depth a.granule a.index s.journal.link s.journal.payload) } ∧
      t.host = { cycle := none, hold := none, hfault := false, data := s.host.data } ∧
      SameCounters s t ∧ SameCommand s t ∧ Surroundings s t ∧ t.engine = s.engine ∧
      (s.tracker.length < 64 →
        t.tracker = s.tracker ++
          [{ granule := a.granule, depth := a.depth, index := a.index, pending := false }] ∧
        t.txn = s.txn ∧ t.status.queue = s.status.queue ∧ t.status.dropped = s.status.dropped) ∧
      (64 ≤ s.tracker.length →
        t.tracker = s.tracker ∧ t.txn = { s.txn with frames := markTopSpill s.txn.frames } ∧
        t.status.queue = (takeRaise s.status .trackerSpill (.depth a.depth) none).queue ∧
        t.status.dropped = (takeRaise s.status .trackerSpill (.depth a.depth) none).dropped)

/-! ### The restore engine (Chapter 5) -/

/-- The checks of Table 5-4 in their order (R93): the reason found for a record's bytes at position p is the first
check they fail, and none is found when they pass all five. The check code (R187) takes each byte from its most
significant bit: the register shifts one place toward its most significant end, and is XORed with 0x1021 if the bit
shifted out differs from the data bit. A journal record's begins with the epoch's low half XORed with its high
half (R5). -/
def Obligations.RestoreChecksInOrder : Prop :=
  (∀ e : Long, epochSeed e = e.extractLsb' 0 16 ^^^ e.extractLsb' 16 16) ∧
  (let bit := fun (r : Half) (d : Bool) => if r.msb ≠ d then (r <<< 1) ^^^ 0x1021 else r <<< 1
   ∀ (r : Half) (b : Byte) (l : List Byte), crc r [] = r ∧
    crc r (b :: l) = crc (bit (bit (bit (bit (bit (bit (bit (bit r (b.getLsbD 7)) (b.getLsbD 6)) (b.getLsbD 5))
      (b.getLsbD 4)) (b.getLsbD 3)) (b.getLsbD 2)) (b.getLsbD 1)) (b.getLsbD 0)) l) ∧
  ∀ (s : State) (bytes : List Byte) (p : Nat),
    let G := s.geometry.granule
    let lo := (halfAt bytes 2).toNat * G
    let tag := byteAt bytes 0 = 0xA5
    let index := (halfAt bytes 4).toNat = p
    let depth := ∀ d, s.engine.target = .depth d →
      d ≤ (byteAt bytes 1).toNat ∧ (byteAt bytes 1).toNat ≤ 8
    let check := halfAt bytes (G + 8) = crc (epochSeed s.journal.epoch) (bytes.take (G + 8))
    let range := lo + G ≤ s.port.strap * 1024 - 512 ∧
      (lo + G ≤ s.geometry.base * 1024 ∨ (s.geometry.base + s.geometry.length) * 1024 ≤ lo)
    (verifyRecord s bytes p = some .tag ↔ ¬tag) ∧
    (verifyRecord s bytes p = some .index ↔ tag ∧ ¬index) ∧
    (verifyRecord s bytes p = some .depth ↔ tag ∧ index ∧ ¬depth) ∧
    (verifyRecord s bytes p = some .check ↔ tag ∧ index ∧ depth ∧ ¬check) ∧
    (verifyRecord s bytes p = some .range ↔ tag ∧ index ∧ depth ∧ check ∧ ¬range) ∧
    (verifyRecord s bytes p = none ↔ tag ∧ index ∧ depth ∧ check ∧ range)

/-- The last read of the record at the cursor ends (R92, R93, R105, R106, R177). A record that passes is kept and
the engine goes on, or is suspended under the power warning. A record that fails stops the engine with the reason
and raises RESTORE_FAULT with the reason and the position. In ABORTING the state becomes FAULTED and the command
ends with RESTORE_FAULT (R39); a write held for the abort is then judged again, and a read held for it passes (R66,
R70, R77, R78). The queue takes RESTORE_FAULT before the WRITE_REFUSED of that write, by the model's inference
(assumption 18; R152 leaves the order open), and a cycle that passes keeps its HWAIT to its end (assumption 8). In
start-up the end state is FAULTED and START_COMPLETE is raised with the steps done. -/
def Obligations.RestoreRecordReadPassesOrFaults : Prop :=
  ∀ (s : State) (m : MemCycle) (p : Nat), CycleDue s .engine m → m.isWrite = false →
    s.engine.cursor = some p → s.engine.reads + 1 = s.geometry.granule + 10 →
    let bytes := s.engine.buffer.take s.engine.reads ++ [s.mem.read m.addr.toNat]
    let rest := fun t : State => WorkFrame s t m ∧ t.journal = s.journal ∧ t.tracker = s.tracker ∧
      t.decoder = s.decoder ∧ t.config.loaded = s.config.loaded
    let stopped := fun r => { s.engine with buffer := bytes, run := .stopped, reason := some r, reads := 0,
                                            writes := 0 }
    ∃ t, exec .restoreRecordRead s = .next t ∧
      (verifyRecord s bytes p = none → rest t ∧
        t.engine = { s.engine with buffer := bytes, reads := s.engine.reads + 1,
                                   run := if s.warning then .suspended else .running } ∧
        (s.warning = false → t.port.claimEngine = true ∨ t.inFlightFor .engine = true) ∧
        t.txn = s.txn ∧ t.status.queue = s.status.queue ∧ t.sequences = s.sequences) ∧
      (∀ r, verifyRecord s bytes p = some r →
        t.engine = stopped r ∧
        (∀ cmd q, s.txn.op = .aborting → s.command.inFlight = some (cmd, q) →
          EndsAndLifts s t (fun t => rest t ∧ t.engine = stopped r ∧
            t.txn = { s.txn with op := .faulted, stage := t.outcome cmd q .restoreFault (.restore r) } ∧
            t.status.queue = (takeRaise s.status .restoreFault (.restore r) (some p)).queue ∧
            t.status.dropped = (takeRaise s.status .restoreFault (.restore r) (some p)).dropped ∧
            Sequence.update .command ∈ t.sequences ∧
            (Sequence.update .command ∉ s.sequences →
              t.sequences = s.sequences ++ [.update .command]))) ∧
        (s.txn.op = .startup .restoring → rest t ∧
          t.txn = { s.txn with endState := some .faulted } ∧
          t.status.queue = (takeRaise (takeRaise s.status .restoreFault (.restore r) (some p))
            .startComplete (.start .fault) (some s.engine.count)).queue ∧
          Sequence.update .final ∈ t.sequences))

/-- The last payload write of a step ends above the stopping position (R58, R96, R102): the position's tracker
entry is removed, the last link is the record's, the count rises, and the cursor moves down; a read held for the
granule passes when no marked entry names it any more. A cycle of the engine that is not its record's last read nor
its step's last write keeps the byte read, or counts the write, and the engine goes on to its next cycle, or is
suspended at this boundary under the power warning (R92, R95, R102). -/
def Obligations.RestoreStepMovesDown : Prop :=
  (∀ (s : State) (m : MemCycle) (p : Nat), CycleDue s .engine m →
    s.engine.cursor = some p → s.engine.stop < p →
    s.geometry.granule + 10 ≤ s.engine.reads → s.engine.writes + 1 = s.geometry.granule →
    let left := s.tracker.filter (fun e => e.index != p)
    ∃ t, exec .restoreStepComplete s = .next t ∧ MemoryAfter s t m ∧ t.tracker = left ∧
      t.engine = { s.engine with lastLink := halfAt s.engine.buffer 6, count := s.engine.count + 1,
                                 reads := 0, writes := 0, cursor := some (p - 1),
                                 run := if s.warning then .suspended else .running } ∧
      (s.warning = false → t.port.claimEngine = true ∨ t.inFlightFor .engine = true) ∧
      t.txn = s.txn ∧ t.journal = s.journal ∧ t.sequences = s.sequences ∧ SameReports s t ∧
      SameCommand s t ∧ Surroundings s t ∧
      (s.host.cycle = none → t.host = s.host) ∧
      (∀ c mode g i, s.host.cycle = some c → c.cause = some .pending → c.cls = .window mode g i →
        ((∃ e ∈ left, e.granule = g ∧ e.pending = true) → t.host.cycle = some c) ∧
        ((∀ e ∈ left, ¬(e.granule = g ∧ e.pending = true)) →
          t.host.cycle = some { c with cause := none } ∨
          t.host.cycle = some { c with cause := some .memory }))) ∧
  (∀ (s : State) (m : MemCycle), CycleDue s .engine m →
    let R := s.geometry.granule + 10
    let b := if m.isWrite then m.data else s.mem.read m.addr.toNat
    (s.engine.reads + 1 < R ∨ (R ≤ s.engine.reads ∧ s.engine.writes + 1 ≠ s.geometry.granule)) →
    ∃ t, exec .memoryCycleComplete s = .next t ∧ WorkFrame s t m ∧ t.txn = s.txn ∧
      t.journal = s.journal ∧ t.tracker = s.tracker ∧ t.sequences = s.sequences ∧ SameReports s t ∧
      SameCommand s t ∧ Surroundings s t ∧
      (s.engine.reads < R → t.engine = { s.engine with
        buffer := s.engine.buffer.take s.engine.reads ++ [b], reads := s.engine.reads + 1,
        run := if s.warning then .suspended else .running }) ∧
      (R ≤ s.engine.reads → t.engine = { s.engine with
        writes := s.engine.writes + 1, run := if s.warning then .suspended else .running }) ∧
      (s.warning = false → s.engine.cursor.isSome = true →
        t.port.claimEngine = true ∨ t.inFlightFor .engine = true))

/-- The last step of a run ends it (R96, R98): the engine is IDLE with the cursor none. An inner abort then gives
N the stopping position and the chain link the last link and asks for the void mark (R22, R23); an abort of target
1 asks for the epoch advance (R38); start-up enters CLOSING with its progress update and its header (R178). A read
held for the granule passes when no marked entry names it any more (R58); every other held cycle stays held until
the abort ends. -/
def Obligations.LastRestoreStepEndsTheRun : Prop :=
  ∀ (s : State) (m : MemCycle) (p : Nat) (k : Configuration), CycleDue s .engine m →
    s.engine.cursor = some p → s.engine.stop = p →
    s.geometry.granule + 10 ≤ s.engine.reads → s.engine.writes + 1 = s.geometry.granule →
    s.config.loaded = some k → s.config.adopting = false →
    let left := s.tracker.filter (fun e => e.index != p)
    ∃ t, exec .restoreStepComplete s = .next t ∧ WorkFrame s t m ∧ t.tracker = left ∧
      t.engine = { s.engine with lastLink := halfAt s.engine.buffer 6, count := s.engine.count + 1,
                                 reads := 0, writes := 0, cursor := none, run := .idle } ∧
      SameCommand s t ∧ Surroundings s t ∧
      (∀ c mode g i, s.host.cycle = some c → c.cause = some .pending → c.cls = .window mode g i →
        ((∃ e ∈ left, e.granule = g ∧ e.pending = true) → t.host.cycle = some c) ∧
        ((∀ e ∈ left, ¬(e.granule = g ∧ e.pending = true)) →
          t.host.cycle = some { c with cause := none } ∨
          t.host.cycle = some { c with cause := some .memory })) ∧
      (∀ c x, s.host.cycle = some c → c.cause = some x → x ≠ .pending → x ≠ .memory →
        t.host.cycle = some c) ∧
      (s.txn.op = .aborting → 2 ≤ s.engine.target.level →
        t.journal = { s.journal with n := p, link := halfAt s.engine.buffer 6 } ∧
        t.sequences = s.sequences ++ [.voidMark] ∧ t.txn = s.txn ∧
        t.status.queue = s.status.queue) ∧
      (s.txn.op = .aborting → s.engine.target.level < 2 →
        t.journal = s.journal ∧ t.txn = s.txn ∧ t.status.queue = s.status.queue ∧
        t.sequences = s.sequences ++ [advanceFrom s.journal.slot s.journal.epoch k]) ∧
      (s.txn.op = .startup .restoring → s.txn.found ≠ 0 → ∀ x, s.journal.slot = some x →
        t.journal = s.journal ∧ t.status.queue = s.status.queue ∧
        t.txn = { s.txn with op := .startup .closing, headerWritten := true } ∧
        t.sequences = s.sequences ++ [.update .progress, nextHeader x s.journal.epoch k])

/-- The void mark is written and the inner abort ends (R23, R37, R56): the entries of the target depth leave the
tracker, the frame leaves the stack, the state becomes READY, and the outcome is DONE with the records restored. A
write held for the abort is then judged again in READY at the depth that is left, and a read held for it passes
(R66, R70, R77); its HWAIT lasts to its end by the model's inference (assumption 8). -/
def Obligations.VoidMarkEndsTheInnerAbort : Prop :=
  ∀ (s : State) (m : MemCycle) (cmd : Command) (q : Half) (f : Frame) (rest : List Frame),
    SequenceDue s .voidMark m → s.command.inFlight = some (cmd, q) → s.txn.frames = f :: rest →
    ∃ t, exec .voidMarkWritten s = .next t ∧
      EndsAndLifts s t (fun t => WorkFrame s t m ∧
        t.tracker = s.tracker.filter (fun e => e.depth != s.engine.target.level) ∧
        t.txn = { s.txn with op := .ready, frames := rest,
                             stage := t.outcome cmd q .done (.number s.engine.count) } ∧
        t.sequences = s.control.waiting ++ [.update .command] ∧
        t.journal = s.journal ∧ t.engine = s.engine ∧ t.config = s.config ∧
        t.status.queue = s.status.queue ∧ t.status.dropped = s.status.dropped ∧
        SameCommand s t ∧ Surroundings s t)

/-! ### Header slots and epoch advances (Chapter 1) -/

/-- The current header slot. A slot is valid (R11) when its tag is HEADER, its epoch is not 0, its granule code is
16, 32 or 64, its pad is 0, its journal of 1 to 256 KiB ends at least 1 KiB below the strapped size, and its check
code agrees; an invalid slot reads as no header. Of two valid slots the current one (R12) is the one whose epoch is
the successor of the other's, else the one with the larger epoch, else slot A; of one valid slot that one; of none,
none. The successor of an epoch is one more, and 1 after the largest (R10). -/
def Obligations.CurrentHeaderIsChosen : Prop :=
  (∀ e : Long, (epochSucc e).toNat = if e.toNat = 4294967295 then 1 else e.toNat + 1) ∧
  (∀ (strap : Nat) (l : List Byte),
    let half := fun i => byteAt l (i + 1) ++ byteAt l i
    let epoch : Long := (half 4 ++ half 2)
    let base := (half 6).toNat
    let length := (half 8).toNat
    let granule := (byteAt l 10).toNat
    let valid := half 0 = 0xE247 ∧ epoch ≠ 0 ∧ (granule = 16 ∨ granule = 32 ∨ granule = 64) ∧
      byteAt l 11 = 0 ∧ 1 ≤ length ∧ length ≤ 256 ∧ base + length ≤ strap - 1 ∧
      half 14 = crc 0xFFFF (l.take 14)
    (valid → readHeader strap l = some { epoch := epoch, geometry :=
      { base := base, length := length, granule := granule, serial := half 12 } }) ∧
    (¬valid → readHeader strap l = none)) ∧
  ∀ (a b : Header),
    chooseHeader none none = none ∧ chooseHeader (some a) none = some (.a, a) ∧
    chooseHeader none (some b) = some (.b, b) ∧
    (b.epoch = epochSucc a.epoch → chooseHeader (some a) (some b) = some (.b, b)) ∧
    (b.epoch ≠ epochSucc a.epoch → a.epoch = epochSucc b.epoch →
      chooseHeader (some a) (some b) = some (.a, a)) ∧
    (b.epoch ≠ epochSucc a.epoch → a.epoch ≠ epochSucc b.epoch →
      (a.epoch.toNat < b.epoch.toNat → chooseHeader (some a) (some b) = some (.b, b)) ∧
      (b.epoch.toNat ≤ a.epoch.toNat → chooseHeader (some a) (some b) = some (.a, a)))

/-- The last read of the two header slots ends (R12, R15, R166, R174): in start-up the chosen header is loaded with N
at 0 and the scan is asked for, or with none valid the phase becomes CLOSING with its update and a header of epoch 1
for slot A; outside start-up the header write is asked for that follows the chosen one. The header's geometry and
serial are those of the configuration in force, and during an ADOPT those of the record being adopted. -/
def Obligations.HeaderSlotsAreRead : Prop :=
  ∀ (s : State) (m : MemCycle) (k : Configuration), SequenceDue s .headerRead m →
    s.control.done + 1 = 32 → m.isWrite = false →
    (s.config.adopting = false ∧ s.config.loaded = some k) ∨
      (s.config.adopting = true ∧ readConfig s.config.buffer = k) →
    let l := s.control.buffer ++ [s.mem.read m.addr.toNat]
    let choice := chooseHeader (readHeader s.port.strap (l.take 16)) (readHeader s.port.strap (l.drop 16))
    let g : Geometry := { base := k.journalBase, length := k.journalLength, granule := k.granule,
                          serial := k.serial }
    ∃ t, exec .headerSlotsRead s = .next t ∧ WorkFrame s t m ∧ t.tracker = s.tracker ∧
      t.engine = s.engine ∧ t.config = s.config ∧ SameCommand s t ∧ Surroundings s t ∧
      (∀ x h, s.txn.op = .startup .scanning → choice = some (x, h) →
        t.journal = { s.journal with
          slot := some x, epoch := h.epoch, geometry := some h.geometry, n := 0,
          capacity := h.geometry.length * 1024 / (h.geometry.granule + 10),
          link := h.epoch.extractLsb' 0 16 } ∧
        t.txn = s.txn ∧ t.sequences = s.control.waiting ++ [.scan] ∧
        t.status.queue = s.status.queue) ∧
      (s.txn.op = .startup .scanning → choice = none → s.journal.slot = none →
        t.journal = s.journal ∧ t.status.queue = s.status.queue ∧
        t.txn = { s.txn with op := .startup .closing, headerWritten := true } ∧
        t.sequences = s.control.waiting ++ [.update .progress, .headerWrite .a 1 g]) ∧
      (s.txn.op.isStartup = false → t.journal = s.journal ∧ t.txn = s.txn ∧
        t.status.queue = s.status.queue ∧
        t.sequences = s.control.waiting ++ [match choice with
          | some (x, h) => .headerWrite x.other (epochSucc h.epoch) g
          | none => .headerWrite .a 1 g])

/-- The write of a new header's last byte ends, whatever asked for it (R14, R48): the header is in force with N at 0,
the capacity of its geometry and the link of position 0, and the tracker is empty. -/
def Obligations.EpochAdvanceTakesEffect : Prop :=
  ∀ (s : State) (m : MemCycle) (x : HeaderSlot) (epoch : Long) (g : Geometry),
    SequenceDue s (.headerWrite x epoch g) m → s.control.done + 1 = 16 →
    ∃ t, exec .epochAdvanceComplete s = .next t ∧ MemoryAfter s t m ∧
      t.journal = { s.journal with
        slot := some x, epoch := epoch, geometry := some g, n := 0,
        capacity := g.length * 1024 / (g.granule + 10), link := epoch.extractLsb' 0 16 } ∧
      t.tracker = []

/-- What the end of an epoch advance ends (R33, R38, R42, R166, R179): a COMMIT, with frame 1's opening sequence; an
abort of target 1, with the records restored; a DISCARD, with the engine IDLE; an ADOPT, with the adopted
configuration in force; or CLOSING, with START_COMPLETE raised and the final update asked for. At the end of
COMMITTING or ABORTING a write held for it is judged again in READY at depth 0, and a read held for it passes (R34,
R66, R70, R76, R77); its HWAIT lasts to its end by the model's inference (assumption 8). -/
def Obligations.EpochAdvanceEndsItsWork : Prop :=
  ∀ (s : State) (m : MemCycle) (x : HeaderSlot) (epoch : Long) (g : Geometry),
    SequenceDue s (.headerWrite x epoch g) m → s.control.done + 1 = 16 →
    let effect := { s.journal with
      slot := some x, epoch := epoch, geometry := some g, n := 0,
      capacity := g.length * 1024 / (g.granule + 10), link := epoch.extractLsb' 0 16 }
    let ended := fun t : State => WorkFrame s t m ∧ t.journal = effect ∧ t.tracker = [] ∧
      t.sequences = s.control.waiting ++ [.update .command] ∧ t.status.queue = s.status.queue ∧
      t.status.dropped = s.status.dropped ∧ SameCommand s t
    ∃ t, exec .epochAdvanceComplete s = .next t ∧
      (∀ cmd q, s.command.inFlight = some (cmd, q) →
        (s.txn.op = .committing → ∀ first, s.txn.frames = [first] →
          EndsAndLifts s t (fun t => ended t ∧
            t.txn = { s.txn with op := .ready, frames := [],
                                 stage := t.outcome cmd q .done (.number first.opening.toNat) } ∧
            t.engine = s.engine ∧ t.config = s.config ∧ Surroundings s t)) ∧
        (s.txn.op = .aborting →
          EndsAndLifts s t (fun t => ended t ∧
            t.txn = { s.txn with op := .ready, frames := [],
                                 stage := t.outcome cmd q .done (.number s.engine.count) } ∧
            t.engine = s.engine ∧ t.config = s.config ∧ Surroundings s t)) ∧
        (s.txn.op = .faulted → ended t ∧
          t.txn = { s.txn with op := .ready, frames := [], stage := t.outcome cmd q .done (.number 0) } ∧
          t.engine = { s.engine with run := .idle, cursor := none, count := 0, reason := none } ∧
          t.config = s.config ∧ Surroundings s t) ∧
        (s.txn.op = .setup → ended t ∧
          let k := readConfig s.config.buffer
          t.txn = { s.txn with op := .ready, frames := [], stage := t.outcome cmd q .done (.number 0) } ∧
          t.config = { s.config with loaded := some k, adopting := false, origin := none } ∧
          t.decoder = { s.decoder with
            map := some (WindowMap.mk k.granule k.windows k.journalBase k.journalLength) } ∧
          t.port.yieldLimit = k.yieldLimit ∧ t.engine = s.engine)) ∧
      (s.txn.op = .startup .closing →
        let outcome := if s.txn.headerWritten then StartOutcome.restored else StartOutcome.clean
        WorkFrame s t m ∧ t.journal = effect ∧ t.tracker = [] ∧
        t.txn = { s.txn with endState := some .ready } ∧ t.engine = s.engine ∧ t.config = s.config ∧
        t.status.queue = (takeRaise s.status .startComplete (.start outcome) (some s.txn.found)).queue ∧
        t.sequences = s.control.waiting ++ [.update .final] ∧ SameCommand s t ∧ Surroundings s t)

/-! ### Configurations (Chapter 9) -/

/-- The last read of a configuration slot ends and its record is validated (R164, R165, R172, R173): an invalid
staged record ends its ADOPT with the reason and a valid one asks for the write of the secondary slot; in LOADING
a valid record is loaded and SCANNING begins, an invalid primary asks for the secondary, and with both invalid
START_COMPLETE is raised and the final update asked for (the phase then stays LOADING until start-up ends, by the
model's inference, assumption 16). The record's 64 bytes are read by Tables 11-2 and 11-3, and validated by the 14
checks of Table 9-4 in their order: the reason is that of the first that fails, and a record passes when none does
(R162, R189). -/
def Obligations.ConfigSlotIsJudged : Prop :=
  (∀ (strap : Nat) (l : List Byte), l.length = 64 →
    let half := fun i => byteAt l (i + 1) ++ byteAt l i
    let k := readConfig l
    let count := (byteAt l 0x0B).toNat
    let ending := fun w : Window => w.base + w.length
    let passes : ConfigReason → Prop := fun r => match r with
      | .tag => half 0 = 0xC4F1
      | .check => half 0x3E = crc 0xFFFF (l.take 62)
      | .granule => k.granule = 16 ∨ k.granule = 32 ∨ k.granule = 64
      | .clock => 1 ≤ k.clock ∧ k.clock ≤ 100
      | .hold => k.holdLimit ≤ 60000
      | .yield => 1 ≤ k.yieldLimit
      | .journal => 1 ≤ k.journalLength ∧ k.journalLength ≤ 256 ∧ k.journalBase + k.journalLength ≤ strap - 1
      | .count => count ≤ 8
      | .unused => ∀ i j, count ≤ i → i < 8 → j < 6 → byteAt l (0x0C + 6 * i + j) = 0
      | .range => ∀ w ∈ k.windows, 1 ≤ w.length ∧ ending w * k.granule ≤ strap * 1024 - 512
      | .overlap => ∀ (i j : Nat) (w v : Window), i < j → k.windows[i]? = some w → k.windows[j]? = some v →
          ending w ≤ v.base ∨ ending v ≤ w.base
      | .journalOverlap => ∀ w ∈ k.windows, ending w * k.granule ≤ k.journalBase * 1024 ∨
          (k.journalBase + k.journalLength) * 1024 ≤ w.base * k.granule
      | .mode => ∀ i, i < count → byteAt l (0x10 + 6 * i) ∈ [1, 2, 3]
      | .pad => ∀ i, i < count → byteAt l (0x11 + 6 * i) = 0
    let order : List ConfigReason := [.tag, .check, .granule, .clock, .hold, .yield, .journal, .count,
      .unused, .range, .overlap, .journalOverlap, .mode, .pad]
    k.granule = (byteAt l 2).toNat ∧ k.clock = (byteAt l 3).toNat ∧ k.holdLimit = (half 4).toNat ∧
    k.yieldLimit = (byteAt l 6).toNat ∧ k.journalBase = (half 7).toNat ∧
    k.journalLength = (half 9).toNat ∧ k.serial = half 0x3C ∧ k.windows.length = count ∧
    (∀ i mode, i < count →
      (byteAt l (0x10 + 6 * i), mode) ∈ [((1 : Byte), WindowMode.openMode), (2, .framed), (3, .frozen)] →
      k.windows[i]? = some (Window.mk (half (0x0C + 6 * i)).toNat (half (0x0E + 6 * i)).toNat mode)) ∧
    (∀ r, validate strap l = some r ↔
      ¬passes r ∧ ∀ earlier, order.idxOf earlier < order.idxOf r → passes earlier) ∧
    (validate strap l = none ↔ ∀ r, passes r)) ∧
  ∀ (s : State) (m : MemCycle) (slot : ConfigSlot), SequenceDue s (.configRead slot) m →
    s.config.progress + 1 = 64 → m.isWrite = false →
    let bytes := s.config.buffer.take 63 ++ [s.mem.read m.addr.toNat]
    let k := readConfig bytes
    ∃ t, exec .configSlotReadComplete s = .next t ∧ WorkFrame s t m ∧ t.config.buffer = bytes ∧
      t.journal = s.journal ∧ t.tracker = s.tracker ∧ t.engine = s.engine ∧ SameCommand s t ∧
      (∀ r cmd q, slot = .staged → validate s.port.strap bytes = some r →
        s.command.inFlight = some (cmd, q) →
        t.txn = { s.txn with stage := t.outcome cmd q .configInvalid (.config r) } ∧
        t.config.adopting = false ∧ t.config.loaded = s.config.loaded ∧
        t.config.origin = s.config.origin ∧ t.decoder = s.decoder ∧
        t.status.queue = s.status.queue ∧ t.sequences = s.control.waiting ++ [.update .command]) ∧
      (slot = .staged → validate s.port.strap bytes = none →
        t.txn = s.txn ∧ t.config.adopting = s.config.adopting ∧ t.decoder = s.decoder ∧
        t.config.loaded = s.config.loaded ∧ t.status.queue = s.status.queue ∧
        t.sequences = s.control.waiting ++ [.configWrite .secondary]) ∧
      (slot ≠ .staged → validate s.port.strap bytes = none →
        t.txn = { s.txn with op := .startup .scanning } ∧ t.config.loaded = some k ∧
        t.decoder = {
          control := some (s.port.strap * 1024 - 512)
          map := some (WindowMap.mk k.granule k.windows k.journalBase k.journalLength) } ∧
        t.port.yieldLimit = k.yieldLimit ∧ t.status.queue = s.status.queue ∧
        t.sequences = s.control.waiting ++ [.update .progress, .headerRead]) ∧
      (∀ r, slot = .primary → validate s.port.strap bytes = some r →
        t.txn = s.txn ∧ t.decoder = s.decoder ∧ t.config.loaded = s.config.loaded ∧
        t.status.queue = s.status.queue ∧
        t.sequences = s.control.waiting ++ [.configRead .secondary]) ∧
      (∀ r, slot = .secondary → validate s.port.strap bytes = some r → s.txn.op = .startup .loading →
        t.txn = { s.txn with endState := some .unconfigured } ∧
        t.decoder = { s.decoder with control := some (s.port.strap * 1024 - 512) } ∧
        t.config.loaded = s.config.loaded ∧
        t.status.queue = (takeRaise s.status .startComplete (.start .noConfig) (some 0)).queue ∧
        t.sequences = s.control.waiting ++ [.update .final])

/-- The last write of a configuration slot ends (R165, R166): the primary slot follows the secondary, and the epoch
advance with the adopted geometry and serial follows the primary. -/
def Obligations.ConfigSlotIsWritten : Prop :=
  ∀ (s : State) (m : MemCycle) (slot : ConfigSlot), SequenceDue s (.configWrite slot) m →
    s.config.progress + 1 = 64 → s.txn.op = .setup → s.config.adopting = true →
    ∃ t, exec .configSlotWriteComplete s = .next t ∧ WorkFrame s t m ∧ t.txn = s.txn ∧
      t.journal = s.journal ∧ t.tracker = s.tracker ∧ t.engine = s.engine ∧
      t.config.buffer = s.config.buffer ∧ t.config.adopting = true ∧ t.config.origin = s.config.origin ∧
      t.status.queue = s.status.queue ∧ SameCommand s t ∧ Surroundings s t ∧
      (slot = .secondary → t.sequences = s.control.waiting ++ [.configWrite .primary]) ∧
      (slot = .primary → t.sequences = s.control.waiting ++
        [advanceFrom s.journal.slot s.journal.epoch (readConfig s.config.buffer)])

/-! ### Start-up (Chapter 10) -/

/-- The read that ends the chain scan ends (R175, R176, R178): a test fails, and n is the positions accepted, or the
last position is accepted, and n is C. N is n and the link that of the last record accepted. With n above 0
RESTORING begins with its update and the run from n − 1 down to 0; with n at 0 and the header's geometry that of
the configuration start-up goes to its end. -/
def Obligations.ScanEndsWithTheRecordsFound : Prop :=
  ∀ (s : State) (m : MemCycle), SequenceDue s .scan m → m.isWrite = false →
    s.txn.op = .startup .scanning →
    let bytes := s.control.buffer ++ [s.mem.read m.addr.toNat]
    let G := s.geometry.granule
    ∀ (n : Nat) (link : Half),
      (ScanRejects s bytes ∧ n = s.control.scanPos ∧ link = s.control.scanLink) ∨
        (ScanAccepts s bytes ∧ n = s.control.scanPos + 1 ∧ n = s.journal.capacity ∧
          link = halfAt bytes (G + 8)) →
      ∃ t, exec .scanEnd s = .next t ∧ WorkFrame s t m ∧ Surroundings s t ∧ SameCommand s t ∧
        t.journal = { s.journal with n := n, link := link } ∧ t.tracker = s.tracker ∧
        (0 < n → t.txn = { s.txn with op := .startup .restoring, found := n } ∧
          RunBegun s t n 0 .all ∧ t.status.queue = s.status.queue ∧
          t.sequences = s.control.waiting ++ [.update .progress]) ∧
        (n = 0 → ∀ x k, s.journal.slot = some x → s.config.loaded = some k → s.config.adopting = false →
          t.engine = s.engine ∧
          (if s.journal.geometry = some (Geometry.mk k.journalBase k.journalLength k.granule k.serial)
           then t.txn = { s.txn with op := .startup .closing, found := 0, endState := some .ready } ∧
             t.status.queue = (takeRaise s.status .startComplete
               (.start (if s.txn.headerWritten then .restored else .clean)) (some 0)).queue ∧
             t.sequences = s.control.waiting ++ [.update .progress, .update .final]
           else t.txn = { s.txn with op := .startup .closing, found := 0, headerWritten := true } ∧
             t.status.queue = s.status.queue ∧
             t.sequences = s.control.waiting ++ [.update .progress, nextHeader x s.journal.epoch k]))

/-- What updates report and end. At the grant of an update's cycle its records are captured (R128, R144 to R148,
R180, R191, R192): at the first the live-state body by Table 11-7 (of the end state in the start-up final update);
with the leading field the successor of the snapshot number; with the first event-area byte the area by Tables 11-11
and 11-12, and no update is owed any more; with the result record its bytes by Table 11-6, and the overrun flag is
then clear (each but the first at the grant of its first cycle by the model's inference, assumption 17). Codes are
those of Tables 7-1, 11-8, 11-9, 11-10 and 11-13. The last write of an update ends what it reports. At the end of the
start-up final update the operating state is the end state, RDY rises and CBUSY falls with it (R180). At the end of a
result record the busy flag is clear, CBUSY low, and no command in flight (R128). A raise or progress update ends
nothing else. ATTN shows whether the event area written holds an entry (R140). -/
def Obligations.UpdatesEndWhatTheyReport : Prop :=
  ([.acknowledge, .begin, .commit, .abort, .unwind, .setup, .adopt, .discard].map Command.code =
      [0, 1, 2, 3, 4, 5, 6, 7] ∧
    [.done, .refusedState, .depthLimit, .noFrame, .shortFrame, .configInvalid, .restoreFault, .powerWarning,
      .queueEmpty].map Result.code = [0, 1, 2, 3, 4, 5, 6, 7, 8] ∧
    [.control, .journal, .frozen, .noFrame, .faulted, .power].map WriteReason.code = [1, 2, 3, 4, 5, 6] ∧
    [.tag, .index, .depth, .check, .range].map RestoreReason.code = [0x11, 0x12, 0x13, 0x14, 0x15] ∧
    [.tag, .check, .granule, .clock, .hold, .yield, .journal, .count, .unused, .range, .overlap, .journalOverlap,
      .mode, .pad].map ConfigReason.code =
      [0x21, 0x22, 0x23, 0x24, 0x25, 0x26, 0x27, 0x28, 0x29, 0x2A, 0x2B, 0x2C, 0x2D, 0x2E] ∧
    [.clean, .restored, .noConfig, .fault].map StartOutcome.code = [0x31, 0x32, 0x33, 0x34] ∧
    [.writeRefused, .journalFull, .holdExpired, .trackerSpill, .restoreFault, .startComplete, .powerWarning].map
      EventKind.code = [1, 2, 3, 4, 5, 6, 7] ∧
    EventDetail.none.code = 0 ∧ (∀ r, (EventDetail.refusal r).code = r.code) ∧
    (∀ d, (EventDetail.depth d).code = BitVec.ofNat 16 d) ∧
    (∀ r, (EventDetail.restore r).code = r.code) ∧ (∀ o, (EventDetail.start o).code = o.code) ∧
    (∀ v, (ResultDetail.number v).code = BitVec.ofNat 16 v) ∧
    (∀ r, (ResultDetail.config r).code = r.code) ∧ (∀ r, (ResultDetail.restore r).code = r.code)) ∧
  (∀ (s : State) (kind : UpdateKind),
    let u := captureUpdate s kind
    let st := s.status
    let i := s.control.done
    let two := fun n : Nat => [byteOf n, byteOf (n / 256)]
    let half := fun w : Half => [w.extractLsb' 0 8, w.extractLsb' 8 8]
    let four := fun w : Long =>
      [w.extractLsb' 0 8, w.extractLsb' 8 8, w.extractLsb' 16 8, w.extractLsb' 24 8]
    let flag := fun b : Bool => if b then (1 : Byte) else 0
    let reported := match kind, s.txn.endState with
      | .final, some .ready => OpState.ready
      | .final, some .unconfigured => .unconfigured
      | .final, some .faulted => .faulted
      | _, _ => s.txn.op
    let entry := fun e : EventEntry =>
      [e.kind.code, byteOf e.repeats, flag e.argument.isSome, 0] ++ half e.detail.code ++ [0, 0] ++
        four (BitVec.ofNat 32 (e.argument.getD 0)) ++ List.replicate 12 0
    u = (s.setStatus u.status).setCommand u.command ∧
    u.status = { st with body := u.status.body, liveBegun := u.status.liveBegun, number := u.status.number,
                         area := u.status.area, areaBegun := u.status.areaBegun, owed := u.status.owed,
                         record := u.status.record } ∧
    (i = 0 → u.status.liveBegun = true ∧
      ∀ (code short spill : Byte), s.depth ≤ 8 →
        (reported, code) ∈ [(OpState.ready, (0x01 : Byte)), (.setup, 0x02), (.committing, 0x03),
          (.aborting, 0x04), (.faulted, 0x05), (.unconfigured, 0x06), (.startup .scanning, 0x11),
          (.startup .restoring, 0x12), (.startup .closing, 0x13)] →
        (∀ d, d < 8 → short.getLsbD d = (s.txn.frames.reverse[d]?).any (fun f => f.short)) →
        (∀ d, d < 8 → spill.getLsbD d = (s.txn.frames.reverse[d]?).any (fun f => f.spill)) →
        u.status.body = [code, flag s.warning, byteOf s.depth, short, spill, byteOf s.tracker.length] ++
          two s.journal.n ++ two s.journal.capacity ++
          (match s.engine.cursor with | none => [0xFF, 0xFF] | some p => two p) ++ four s.journal.epoch ++
          (match s.config.loaded with | none => [0, 0] | some k => half k.serial) ++
          two st.refused ++ two st.expired ++ two st.startFaults ++ List.replicate 32 0) ∧
    (i ≠ 0 → u.status.body = st.body ∧ u.status.liveBegun = st.liveBegun) ∧
    (i = st.snapReads → ∀ n, st.snapshot = some n → u.status.number = n + 1) ∧
    (i ≠ st.snapReads → u.status.number = st.number) ∧
    (i = st.snapReads + 64 → u.status.areaBegun = true ∧ u.status.owed = false ∧
      (st.queue.length ≤ 4 → u.status.area = (st.queue.map entry).flatten ++
        List.replicate (96 - 24 * st.queue.length) 0 ++ [byteOf st.queue.length, byteOf st.dropped, 0, 0] ++
        four st.number)) ∧
    (i ≠ st.snapReads + 64 → u.status.area = st.area ∧ u.status.areaBegun = st.areaBegun ∧
      u.status.owed = st.owed) ∧
    (i = st.snapReads + 168 → u.command = { s.command with overrun := false } ∧
      ∀ r, s.txn.stage = .ended r → u.status.record = half r.seq ++ [r.command.code, r.result.code] ++
        half r.detail.code ++ [flag s.command.overrun, byteOf r.depth] ++ four r.epoch ++ two r.n ++
        List.replicate 18 0) ∧
    (i ≠ st.snapReads + 168 → u.command = s.command ∧ u.status.record = st.record)) ∧
  ∀ (s : State) (m : MemCycle),
    (∀ p e, SequenceDue s (.update .final) m → s.control.done + 1 = s.status.snapReads + 168 →
      s.txn.op = .startup p → s.txn.endState = some e →
      ∃ t, exec .startupEnd s = .next t ∧ WorkFrame s t m ∧
        t.txn = { s.txn with op := match e with
          | .ready => .ready | .unconfigured => .unconfigured | .faulted => .faulted } ∧
        t.rdy = true ∧ t.cbusy = false ∧ t.command.inFlight = s.command.inFlight ∧
        t.attn = (byteAt s.status.area 96 != 0) ∧ t.status.queue = s.status.queue ∧
        t.journal = s.journal ∧ t.tracker = s.tracker ∧ t.engine = s.engine ∧ t.config = s.config ∧
        Surroundings s t ∧ t.sequences = s.control.waiting) ∧
    (SequenceDue s (.update .command) m → s.control.done + 1 = s.status.snapReads + 200 →
      ∃ t, exec .statusUpdateComplete s = .next t ∧ WorkFrame s t m ∧
        t.cbusy = false ∧ t.command.inFlight = none ∧ t.txn = { s.txn with stage := .idle } ∧
        t.attn = s.attn ∧ t.status.queue = s.status.queue ∧ t.journal = s.journal ∧
        t.tracker = s.tracker ∧ t.engine = s.engine ∧ t.config = s.config ∧ Surroundings s t ∧
        t.sequences = s.control.waiting) ∧
    (∀ kind, SequenceDue s (.update kind) m →
      (kind = .raise ∧ s.control.done + 1 = s.status.snapReads + 168) ∨
        (kind = .progress ∧ s.control.done + 1 = s.status.snapReads + 64) →
      ∃ t, exec .memoryCycleComplete s = .next t ∧ WorkFrame s t m ∧ t.txn = s.txn ∧
        t.attn = (if kind = .raise then byteAt s.status.area 96 != 0 else s.attn) ∧ SameCommand s t ∧
        t.status.snapshot = s.status.snapshot ∧ t.status.queue = s.status.queue ∧
        t.journal = s.journal ∧ t.tracker = s.tracker ∧ t.engine = s.engine ∧ t.config = s.config ∧
        Surroundings s t ∧ t.sequences = s.control.waiting)

/-- An idle control unit begins the sequence that has waited longest, with what its beginning sets and its first
memory cycle claimed (R114, R143, R146, R155, R175). A sequence requested at an idle control unit with none waiting
begins in the same way at once (by the model's inference, assumption 14), and otherwise waits behind the others. A
memory cycle of its sequence that is not the last leaves the sequence in progress with its next cycle claimed or in
flight (R112, R113) and keeps what it read: a byte of a header slot, a byte of a configuration slot (R155), a byte
of the scan (R175), or a byte of a snapshot read. The fourth snapshot read gives the snapshot number, as does the
first byte written of the leading field (R146), and the last byte of an event-area write sets ATTN (R140). The
scan's accepted record below C moves it to the next position under that record's check code (R175). -/
def Obligations.ControlUnitBeginsTheLongestWaiting : Prop :=
  (∀ (s : State) (k : Sequence) (rest : List Sequence), s.resetting = false →
    s.control.current = none → s.control.waiting = k :: rest →
    ∃ t, exec .controlSequenceStart s = .next t ∧ Begun s t k ∧ t.control.waiting = rest ∧
      t.txn = s.txn ∧ t.journal = s.journal ∧ t.tracker = s.tracker ∧ t.engine = s.engine ∧
      SameReports s t ∧ SameCommand s t ∧ Surroundings s t ∧ SameMemory s t ∧
      (s.host.cycle = none → t.host = s.host)) ∧
  (∀ (s : State) (k : Sequence),
    (s.control.current = none → s.control.waiting = [] →
      Begun s (requestSequence s k) k ∧ (requestSequence s k).control.waiting = []) ∧
    (s.control.current ≠ none ∨ s.control.waiting ≠ [] →
      requestSequence s k = s.setControl { s.control with waiting := s.control.waiting ++ [k] })) ∧
  ∀ (s : State) (m : MemCycle) (k : Sequence), SequenceDue s k m →
    let b := if m.isWrite then m.data else s.mem.read m.addr.toNat
    let bytes := s.control.buffer ++ [b]
    let G := s.geometry.granule
    let R := s.status.snapReads
    let i := s.control.done
    (match k with
      | .headerWrite _ _ _ => i + 1 ≠ 16
      | .headerRead => i + 1 ≠ 32
      | .voidMark => False
      | .configRead _ => s.config.progress + 1 ≠ 64
      | .configWrite _ => s.config.progress + 1 ≠ 64
      | .scan => ¬ScanRejects s bytes ∧ ¬(ScanAccepts s bytes ∧ s.control.scanPos + 1 = s.journal.capacity)
      | .update .progress => i + 1 ≠ R + 64
      | .update .command => i + 1 ≠ R + 200
      | .update _ => i + 1 ≠ R + 168) →
    ∃ t, exec .memoryCycleComplete s = .next t ∧ WorkFrame s t m ∧ t.sequences = s.sequences ∧
      t.control.current = some k ∧ (t.port.claimControl = true ∨ t.inFlightFor .control = true) ∧
      t.txn = s.txn ∧ t.journal = s.journal ∧ t.tracker = s.tracker ∧ t.engine = s.engine ∧
      SameReports s t ∧ SameCommand s t ∧ Surroundings s t ∧
      (k ≠ .scan → t.control.done = i + 1 ∧ t.control.scanPos = s.control.scanPos ∧
        t.control.scanLink = s.control.scanLink) ∧
      (k = .headerRead → t.control.buffer = bytes) ∧
      (∀ slot, k = .configRead slot → t.config = { s.config with
        buffer := s.config.buffer.take s.config.progress ++ [b], progress := s.config.progress + 1 }) ∧
      (∀ slot, k = .configWrite slot → t.config = { s.config with progress := s.config.progress + 1 }) ∧
      ((∀ slot, k ≠ .configRead slot ∧ k ≠ .configWrite slot) → t.config = s.config) ∧
      (k = .scan → t.control.done = i ∧
        (¬ScanAccepts s bytes → t.control.buffer = bytes ∧ t.control.scanPos = s.control.scanPos ∧
          t.control.scanLink = s.control.scanLink) ∧
        (ScanAccepts s bytes → t.control.buffer = [] ∧ t.control.scanPos = s.control.scanPos + 1 ∧
          t.control.scanLink = halfAt bytes (G + 8))) ∧
      ((∀ kind, k ≠ .update kind) → t.status = s.status) ∧
      (∀ kind, k = .update kind →
        t.control.buffer = (if i < R then bytes else s.control.buffer) ∧
        t.status.snapshot = (if i < R then
            (if i + 1 = R then some (byteAt bytes 3 ++ byteAt bytes 2 ++ byteAt bytes 1 ++ byteAt bytes 0)
             else s.status.snapshot)
          else if i = R then some s.status.number else s.status.snapshot) ∧
        t.attn = (if i = R + 167 then byteAt s.status.area 96 != 0 else s.attn))

/-! ### Command lines (Chapter 7) -/

/-- CSTRB at a level (R123 to R125, Table 7-2). A high level after a low one is a rising edge. With the busy flag
clear it is taken: the flag is set, the sequence number rises by 1 and the command the code names (Table 7-1) is in
flight under it; while the host path has journaled work in flight it waits and nothing else happens, and otherwise
it begins execution at once, as a command that waited does (R127). With the busy flag set it is ignored: the overrun
flag is set, and nothing else changes but the level seen. A low level, or a high one after a high one, is no edge:
it is only kept as the last level seen. (The rows' readings are the model's, assumption 11: STROBE_TAKEN
carries the level and STROBE_IGNORED sees a high one, at an edge STROBE_TAKEN with the busy flag set acts as
STROBE_IGNORED, and STROBE_IGNORED with it clear leaves the state as it is.) -/
def Obligations.StrobeIsTakenOrIgnored : Prop :=
  ([0, 1, 2, 3, 4, 5, 6, 7] : List (BitVec 3)).map commandOf =
    [.acknowledge, .begin, .commit, .abort, .unwind, .setup, .adopt, .discard] ∧
  ∀ (s : State) (code : BitVec 3), s.resetting = false →
    let waiting := (s.setCommand { s.command with
      busy := true, seq := s.command.seq + 1, strobe := true,
      inFlight := some (commandOf code, s.command.seq + 1) }).setTxn { s.txn with stage := .waiting }
    (s.command.strobe = false → s.command.busy = false → s.journaledWork = false →
      exec (.strobeTaken ⟨code, true⟩) s = exec .commandExecutionBegin waiting ∧
      ∃ t, exec (.strobeTaken ⟨code, true⟩) s = .next t ∧ t.cbusy = true ∧
        t.command.seq = s.command.seq + 1 ∧ t.command.strobe = true) ∧
    (s.command.strobe = false → s.command.busy = false → s.journaledWork = true →
      ∃ t, exec (.strobeTaken ⟨code, true⟩) s = .next t ∧
      t.command.busy = true ∧ t.command.seq = s.command.seq + 1 ∧ t.command.strobe = true ∧
      t.command.inFlight = some (commandOf code, s.command.seq + 1) ∧
      t.txn = { s.txn with stage := .waiting } ∧ t.sequences = s.sequences ∧ t.journal = s.journal ∧
      t.tracker = s.tracker ∧ t.engine = s.engine ∧ t.config = s.config ∧ SameReports s t ∧
      Surroundings s t ∧ SameMemory s t) ∧
    (s.command.strobe = false → s.command.busy = true →
      ∃ t, exec .strobeIgnored s = .next t ∧ exec (.strobeTaken ⟨code, true⟩) s = .next t ∧
      t = s.setCommand { s.command with overrun := true, strobe := true }) ∧
    (s.command.strobe = false → s.command.busy = false → exec .strobeIgnored s = .next s) ∧
    (∀ high, high = false ∨ s.command.strobe = true →
      ∃ t, exec (.strobeTaken ⟨code, high⟩) s = .next t ∧
      t = s.setCommand { s.command with strobe := high }) ∧
    (s.command.strobe = true → exec .strobeIgnored s = .next s)

/-- A command's own row is the beginning of its execution when it is the command that waits; with no command in
flight and the busy flag clear it is the take of its strobe, CSTRB having returned low and risen; and it leaves the
state as it is when another command is in flight or a strobe would be ignored (the rows' reading is the model's
choice, assumption 10). -/
def Obligations.CommandRowsGiveTheirCommand : Prop :=
  ∀ (s : State) (cmd : Command), s.resetting = false →
    (∀ q, CommandDue s cmd q → exec cmd.row s = exec .commandExecutionBegin s) ∧
    (s.command.inFlight = none → s.command.busy = false → ∀ code, commandOf code = cmd →
      exec cmd.row s = exec (.strobeTaken ⟨code, true⟩) (s.setCommand { s.command with strobe := false })) ∧
    (s.command.inFlight = none → s.command.busy = true → exec cmd.row s = .next s) ∧
    (∀ other q, s.command.inFlight = some (other, q) → other ≠ cmd → exec cmd.row s = .next s)

/-- Under the power warning a command other than ACKNOWLEDGE ends with POWER_WARNING and detail 0 and does nothing
else (R127, step 1). -/
def Obligations.PowerWarningRefusesCommands : Prop :=
  ∀ (s : State) (cmd : Command) (q : Half), CommandDue s cmd q → s.warning = true →
    cmd ≠ .acknowledge →
    ∃ t, exec cmd.row s = .next t ∧ exec .commandExecutionBegin s = .next t ∧
      EndsAtOnce s t cmd q .powerWarning (.number 0)

/-- With the power warning negated a command that the state or the depth does not admit ends with the outcome of
Table 7-5 and detail 0 and does nothing else. -/
def Obligations.CommandsAreRefusedByStateAndDepth : Prop :=
  ∀ (s : State) (cmd : Command) (q : Half) (r : Result), CommandDue s cmd q → s.warning = false →
    s.depth ≤ 8 → cmd.refusal s.txn.op s.depth = some r →
    ∃ t, exec cmd.row s = .next t ∧ exec .commandExecutionBegin s = .next t ∧
      EndsAtOnce s t cmd q r (.number 0)

/-- ACKNOWLEDGE (R130, R153): the oldest entry is removed and the outcome is DONE with the entries left, and with the
last entry the dropped counter is cleared; at an empty queue nothing is removed and the outcome is QUEUE_EMPTY. -/
def Obligations.AcknowledgeRemovesTheOldestEntry : Prop :=
  ∀ (s : State) (q : Half), CommandDue s .acknowledge q →
    ∃ t, exec .acknowledge s = .next t ∧ exec .commandExecutionBegin s = .next t ∧
      (s.status.queue = [] → EndsAtOnce s t .acknowledge q .queueEmpty (.number 0)) ∧
      (∀ oldest rest, s.status.queue = oldest :: rest →
        t.status.queue = rest ∧
        t.status.dropped = (if rest = [] then 0 else s.status.dropped) ∧
        t.txn = { s.txn with stage := t.outcome .acknowledge q .done (.number rest.length) } ∧
        t.sequences = s.sequences ++ [.update .command] ∧ t.journal = s.journal ∧
        t.tracker = s.tracker ∧ t.engine = s.engine ∧ t.config = s.config ∧ CommandFrame s t)

/-- BEGIN in READY at a depth from 0 to 7 with the warning negated opens a frame that starts at N with both flags
clear and the command's number as its opening sequence, and ends with DONE (R28). -/
def Obligations.BeginOpensAFrame : Prop :=
  ∀ (s : State) (q : Half), CommandDue s .begin q → s.warning = false → s.txn.op = .ready →
    s.depth ≤ 7 →
    ∃ t, exec .beginFrame s = .next t ∧ exec .commandExecutionBegin s = .next t ∧
      t.depth = s.depth + 1 ∧
      t.txn = { s.txn with
        frames := Frame.mk s.journal.n false false q :: s.txn.frames
        stage := t.outcome .begin q .done (.number 0) } ∧
      t.sequences = s.sequences ++ [.update .command] ∧ t.journal = s.journal ∧ t.tracker = s.tracker ∧
      t.engine = s.engine ∧ t.config = s.config ∧ t.status.queue = s.status.queue ∧
      t.status.dropped = s.status.dropped ∧ CommandFrame s t

/-- COMMIT in READY with the warning negated (R30, R31, R54): an inner frame closes into the frame below, which takes
its flags, its tracker entries pass down unless the lower frame has the granule, and the outcome is DONE with its
opening sequence; frame 1 is refused with SHORT_FRAME when short, and otherwise COMMITTING is entered and the epoch
advance asked for. -/
def Obligations.CommitClosesTheTopFrame : Prop :=
  ∀ (s : State) (q : Half) (f : Frame) (below : List Frame), CommandDue s .commit q →
    s.warning = false → s.txn.op = .ready → s.txn.frames = f :: below →
    ∃ t, exec .commit s = .next t ∧ exec .commandExecutionBegin s = .next t ∧ CommandFrame s t ∧
      t.journal = s.journal ∧ t.engine = s.engine ∧ t.config = s.config ∧
      t.status.queue = s.status.queue ∧ t.status.dropped = s.status.dropped ∧
      (∀ f' rest, below = f' :: rest →
        t.txn = { s.txn with
          frames := Frame.mk f'.start (f'.short || f.short) (f'.spill || f.spill) f'.opening :: rest
          stage := t.outcome .commit q .done (.number f.opening.toNat) } ∧
        t.sequences = s.sequences ++ [.update .command] ∧
        (∀ e, e ∈ t.tracker ↔
          (e ∈ s.tracker ∧ e.depth ≠ s.depth) ∨
          (e.depth = s.depth - 1 ∧ { e with depth := s.depth } ∈ s.tracker ∧
            ∀ e' ∈ s.tracker, ¬(e'.granule = e.granule ∧ e'.depth = s.depth - 1)))) ∧
      (below = [] → f.short = true →
        EndsAtOnce s t .commit q .shortFrame (.number f.opening.toNat)) ∧
      (below = [] → f.short = false → s.config.adopting = false → ∀ k, s.config.loaded = some k →
        t.txn = { s.txn with op := .committing, stage := .executing } ∧ t.tracker = s.tracker ∧
        t.sequences = s.sequences ++ [advanceFrom s.journal.slot s.journal.epoch k])

/-- ABORT in READY with a frame open and the warning negated (R35, R36, R57, R91): ABORTING is entered with the pending
marks of the top depth set and the run from N − 1 down to the top frame's start begun; with no record to restore
an inner abort ends at once with DONE and detail 0, and an outer one asks for the epoch advance. -/
def Obligations.AbortUndoesTheTopFrame : Prop :=
  ∀ (s : State) (q : Half) (f : Frame) (below : List Frame), CommandDue s .abort q →
    s.warning = false → s.txn.op = .ready → s.txn.frames = f :: below →
    let marked := s.tracker.map (fun e => TrackerEntry.mk e.granule e.depth e.index (s.depth ≤ e.depth))
    ∃ t, exec .abort s = .next t ∧ exec .commandExecutionBegin s = .next t ∧ CommandFrame s t ∧
      (f.start < s.journal.n ∨ below = [] ∨ s.NoneToLift →
        t.journal = s.journal ∧ t.config = s.config ∧ t.status.queue = s.status.queue ∧
        t.status.dropped = s.status.dropped) ∧
      (f.start < s.journal.n →
        t.txn = { s.txn with op := .aborting, stage := .executing } ∧ t.tracker = marked ∧
        RunBegun s t s.journal.n f.start (.depth s.depth) ∧ t.sequences = s.sequences) ∧
      (s.journal.n ≤ f.start → below ≠ [] → s.NoneToLift →
        t.txn = { s.txn with op := .ready, frames := below,
                             stage := t.outcome .abort q .done (.number 0) } ∧
        t.tracker = marked.filter (fun e => e.depth != s.depth) ∧ t.engine.run = .idle ∧
        t.engine.cursor = none ∧ t.sequences = s.sequences ++ [.update .command]) ∧
      (s.journal.n ≤ f.start → below = [] → s.config.adopting = false → ∀ k, s.config.loaded = some k →
        t.txn = { s.txn with op := .aborting, stage := .executing } ∧ t.tracker = marked ∧
        t.engine.run = .idle ∧ t.engine.cursor = none ∧
        t.sequences = s.sequences ++ [advanceFrom s.journal.slot s.journal.epoch k])

/-- UNWIND with the warning negated, in READY with a frame open and in FAULTED (R40, R41): ABORTING is entered with
target depth 1, every tracker entry marked pending and the run from N − 1 down to 0 begun; with N at 0 the epoch
advance is asked for. -/
def Obligations.UnwindUndoesEveryFrame : Prop :=
  ∀ (s : State) (q : Half), CommandDue s .unwind q → s.warning = false →
    (s.txn.op = .ready ∧ 1 ≤ s.depth) ∨ s.txn.op = .faulted →
    ∃ t, exec .unwind s = .next t ∧ exec .commandExecutionBegin s = .next t ∧ CommandFrame s t ∧
      t.txn = { s.txn with op := .aborting, stage := .executing } ∧
      t.tracker = s.tracker.map (fun e => TrackerEntry.mk e.granule e.depth e.index (1 ≤ e.depth)) ∧
      t.journal = s.journal ∧ t.config = s.config ∧ t.status.queue = s.status.queue ∧
      t.status.dropped = s.status.dropped ∧
      (0 < s.journal.n → RunBegun s t s.journal.n 0 (.depth 1) ∧ t.sequences = s.sequences) ∧
      (s.journal.n = 0 → s.config.adopting = false → ∀ k, s.config.loaded = some k →
        t.engine.run = .idle ∧ t.engine.cursor = none ∧
        t.sequences = s.sequences ++ [advanceFrom s.journal.slot s.journal.epoch k])

/-- SETUP with the warning negated (R158): from READY at depth 0 and from UNCONFIGURED the state becomes SETUP with
that state as its origin, and in SETUP nothing changes; the outcome is DONE with detail 0. -/
def Obligations.SetupIsEntered : Prop :=
  ∀ (s : State) (q : Half), CommandDue s .setup q → s.warning = false →
    (s.txn.op = .ready ∧ s.depth = 0) ∨ s.txn.op = .unconfigured ∨ s.txn.op = .setup →
    ∃ t, exec .setup s = .next t ∧ exec .commandExecutionBegin s = .next t ∧ CommandFrame s t ∧
      t.txn = { s.txn with op := .setup, stage := t.outcome .setup q .done (.number 0) } ∧
      t.config = { s.config with origin :=
        if s.txn.op = .ready then some .ready
        else if s.txn.op = .unconfigured then some .unconfigured else s.config.origin } ∧
      t.sequences = s.sequences ++ [.update .command] ∧ t.journal = s.journal ∧ t.tracker = s.tracker ∧
      t.engine = s.engine ∧ t.status.queue = s.status.queue ∧ t.status.dropped = s.status.dropped

/-- An ABORT that begins execution in SETUP with the warning negated cancels setup (R160): the state becomes the SETUP
origin, which becomes none, with DONE and detail 0; nothing of the memory, the journal unit, the configuration in
force or the yield limit changes, whether or not an ADOPT has failed before. Under the warning it is refused with
POWER_WARNING and the part stays in SETUP. -/
def Obligations.AbortInSetupCancels : Prop :=
  ∀ (s : State) (q : Half) (o : SetupOrigin), CommandDue s .abort q → s.txn.op = .setup →
    s.config.origin = some o →
    ∃ t, exec .abort s = .next t ∧ exec .commandExecutionBegin s = .next t ∧ CommandFrame s t ∧
      t.sequences = s.sequences ++ [.update .command] ∧ t.journal = s.journal ∧ t.tracker = s.tracker ∧
      t.engine = s.engine ∧ t.status.queue = s.status.queue ∧ t.status.dropped = s.status.dropped ∧
      (s.warning = false →
        t.txn = { s.txn with
          op := match o with | .ready => .ready | .unconfigured => .unconfigured
          stage := t.outcome .abort q .done (.number 0) } ∧
        t.config = { s.config with origin := none }) ∧
      (s.warning = true → t.txn.op = .setup ∧ t.config = s.config ∧
        t.txn.stage = t.outcome .abort q .powerWarning (.number 0))

/-- ADOPT in SETUP and DISCARD in FAULTED, with the warning negated, begin their work. The ADOPT executes from now on
and asks for the read of the staged slot, after a staged-slot write that has been judged to pass and has not ended
(R161). The DISCARD asks for the epoch advance that gives up the records (R42); the frames, the engine and the
journal stay until it ends. -/
def Obligations.AdoptAndDiscardBeginTheirWork : Prop :=
  ∀ (s : State) (q : Half), s.warning = false →
    (CommandDue s .adopt q → s.txn.op = .setup →
      ∃ t, exec .adopt s = .next t ∧ exec .commandExecutionBegin s = .next t ∧ CommandFrame s t ∧
        t.txn = { s.txn with stage := .executing } ∧ t.config.adopting = true ∧
        t.config.origin = s.config.origin ∧ t.journal = s.journal ∧ t.tracker = s.tracker ∧
        t.engine = s.engine ∧ t.status.queue = s.status.queue ∧ t.status.dropped = s.status.dropped ∧
        (s.stagedWork = false → t.sequences = s.sequences ++ [.configRead .staged]) ∧
        (s.stagedWork = true → t.sequences = s.sequences ∧ t.config.readWaits = true)) ∧
    (CommandDue s .discard q → s.txn.op = .faulted → s.config.adopting = false →
      ∀ k, s.config.loaded = some k →
      ∃ t, exec .discard s = .next t ∧ exec .commandExecutionBegin s = .next t ∧ CommandFrame s t ∧
        t.txn = { s.txn with stage := .executing } ∧ t.journal = s.journal ∧ t.tracker = s.tracker ∧
        t.engine = s.engine ∧ t.config = s.config ∧ t.status.queue = s.status.queue ∧
        t.status.dropped = s.status.dropped ∧
        t.sequences = s.sequences ++ [advanceFrom s.journal.slot s.journal.epoch k])

/-! ### The event queue, the arbiter and the window decoder -/

/-- A raise (R151): at an entry of its kind that entry's repeat count rises, holding at 255, and nothing else of the
queue changes; otherwise with fewer than 4 entries a new one is added at the newest end; otherwise the raise is
dropped and counted, holding at 255. Its update (R144): in STARTUP the final update carries it unless its event-area
write has begun, the update of the command in flight carries it unless that one's event-area write has begun, an
owed update carries it, and otherwise a raise update is requested and owed. -/
def Obligations.RaiseIsTakenByTheQueue : Prop :=
  ∀ (s : State) (k : EventKind) (d : EventDetail) (arg : Option Nat),
    let u := (raiseEvent s k d arg).status
    ((∃ e ∈ s.status.queue, e.kind = k) →
      u.dropped = s.status.dropped ∧ u.queue.length = s.status.queue.length ∧
      ∀ (i : Nat) (e : EventEntry), s.status.queue[i]? = some e →
        u.queue[i]? = some (EventEntry.mk e.kind e.detail e.argument
        (if e.kind = k then min 255 (e.repeats + 1) else e.repeats))) ∧
    ((∀ e ∈ s.status.queue, e.kind ≠ k) → s.status.queue.length < 4 →
      u.queue = s.status.queue ++ [{ kind := k, detail := d, argument := arg, repeats := 1 }] ∧
      u.dropped = s.status.dropped) ∧
    ((∀ e ∈ s.status.queue, e.kind ≠ k) → 4 ≤ s.status.queue.length →
      u.queue = s.status.queue ∧ u.dropped = min 255 (s.status.dropped + 1)) ∧
    SameCounters s (raiseEvent s k d arg) ∧
    UpdateAsked s (raiseEvent s k d arg)
      (s.txn.op.isStartup = true ∧
        ¬(s.control.current = some (.update .final) ∧ s.status.areaBegun = true)) True

/-- A grant (R115, R116): with no memory cycle in flight the control unit is granted at its yield limit, else the
engine at its own, else the host path, else the control unit, else the engine; the claim granted is spent and its
yield counter 0, and a host grant raises the counter of each other claimant that waits, holding at 255. A host
grant takes the cause MEMORY from the cycle it grants (R67); that HWAIT and the hold timer go on from there to the
cycle's end is the model's inference (assumption 8). A grant of an update's cycle captures what that cycle needs: the
live-state record at the update's first cycle (R145), and the event area, the new snapshot number and the result
record each at the grant of its first write by the model's inference (assumption 17). -/
def Obligations.ArbiterGrantsByYield : Prop :=
  ∀ s : State, s.port.inFlight = none →
    let p := s.port
    let t := arbitrate s
    let controlFirst := p.claimControl = true ∧ p.yieldLimit ≤ p.yieldControl
    let engineFirst := p.claimEngine = true ∧ p.yieldLimit ≤ p.yieldEngine
    let host := ¬controlFirst ∧ ¬engineFirst ∧ p.claimHost = true
    let control := controlFirst ∨ (¬engineFirst ∧ p.claimHost = false ∧ p.claimControl = true)
    let engine := ¬control ∧ ¬host ∧ p.claimEngine = true
    (host → t.port = { p with
        inFlight := hostCycle s, claimHost := false
        yieldControl := if p.claimControl then min 255 (p.yieldControl + 1) else p.yieldControl
        yieldEngine := if p.claimEngine then min 255 (p.yieldEngine + 1) else p.yieldEngine } ∧
      (∀ c, s.host.cycle = some c → t.host = { s.host with
        cycle := some (if c.cause = some .memory then { c with cause := none } else c) })) ∧
    (control → t.port.claimControl = false ∧ t.port.yieldControl = 0 ∧
      t.port.claimHost = p.claimHost ∧ t.port.claimEngine = p.claimEngine ∧
      t.port.yieldEngine = p.yieldEngine ∧
      (∀ k, s.control.current = some k → t.inFlightFor .control = true ∧
        let u := match k with | .update kind => captureUpdate s kind | _ => s
        t = u.setPort { p with inFlight := controlCycle u, claimControl := false, yieldControl := 0 })) ∧
    (engine → t.port = { p with inFlight := engineCycle s, claimEngine := false, yieldEngine := 0 }) ∧
    (p.claimHost = false → p.claimControl = false → p.claimEngine = false → t = s)

/-- The class of an address by the first test that fits (R63): at or above the strapped size, in the control area, in
the journal region, in a window, and UNGUARDED otherwise. With no configuration every address outside the control
area is UNGUARDED (R157), and before the end of LOADING gives the control-area bounds every address is. -/
def Obligations.AddressesAreClassified : Prop :=
  ∀ (s : State) (addr : Addr),
    let a := addr.toNat
    (s.decoder.control = none → s.decoder.map = none → classify s addr = .unguarded) ∧
    ∀ (base : Nat), s.decoder.control = some base →
      let area := base ≤ a ∧ a < base + 512
      (s.port.strap * 1024 ≤ a → classify s addr = .unguarded) ∧
      (a < s.port.strap * 1024 → area → classify s addr = .control (decide (a < base + 64))) ∧
      (s.decoder.map = none → ¬area → classify s addr = .unguarded) ∧
      ∀ (m : WindowMap), s.decoder.map = some m →
        let journal := m.journalBase * 1024 ≤ a ∧ a < (m.journalBase + m.journalLength) * 1024
        let g := a / m.granule
        let inside := fun w : Window => w.base ≤ g ∧ g < w.base + w.length
        (a < s.port.strap * 1024 → ¬area → journal → classify s addr = .journal) ∧
        (a < s.port.strap * 1024 → ¬area → ¬journal → ∀ i w, m.windows[i]? = some w → inside w →
          (∀ j v, j < i → m.windows[j]? = some v → ¬inside v) →
          classify s addr = .window w.mode g i) ∧
        (a < s.port.strap * 1024 → ¬area → ¬journal → (∀ w ∈ m.windows, ¬inside w) →
          classify s addr = .unguarded)
end

