-- ==== Sys2Proof/Laws/State.lean ====
section
/-! SUPPORT. One lemma per field per block update, true by unfolding, so that no later proof unfolds a
record update. -/

-- One declaration at a time: the package as one text then needs few threads.
set_option Elab.async false

namespace Sys2Proof.Machine

@[simp] theorem State.setMem_mem (s : State) (x : Memory) : (s.setMem x).mem = x := rfl
@[simp] theorem State.setMem_host (s : State) (x : Memory) : (s.setMem x).host = s.host := rfl
@[simp] theorem State.setMem_decoder (s : State) (x : Memory) : (s.setMem x).decoder = s.decoder := rfl
@[simp] theorem State.setMem_txn (s : State) (x : Memory) : (s.setMem x).txn = s.txn := rfl
@[simp] theorem State.setMem_journal (s : State) (x : Memory) : (s.setMem x).journal = s.journal := rfl
@[simp] theorem State.setMem_tracker (s : State) (x : Memory) : (s.setMem x).tracker = s.tracker := rfl
@[simp] theorem State.setMem_engine (s : State) (x : Memory) : (s.setMem x).engine = s.engine := rfl
@[simp] theorem State.setMem_port (s : State) (x : Memory) : (s.setMem x).port = s.port := rfl
@[simp] theorem State.setMem_control (s : State) (x : Memory) : (s.setMem x).control = s.control := rfl
@[simp] theorem State.setMem_command (s : State) (x : Memory) : (s.setMem x).command = s.command := rfl
@[simp] theorem State.setMem_status (s : State) (x : Memory) : (s.setMem x).status = s.status := rfl
@[simp] theorem State.setMem_config (s : State) (x : Memory) : (s.setMem x).config = s.config := rfl
@[simp] theorem State.setMem_warning (s : State) (x : Memory) : (s.setMem x).warning = s.warning := rfl
@[simp] theorem State.setMem_resetting (s : State) (x : Memory) : (s.setMem x).resetting = s.resetting := rfl
@[simp] theorem State.setMem_free (s : State) (x : Memory) : (s.setMem x).free = s.free := rfl
@[simp] theorem State.setMem_pending (s : State) (x : Memory) : (s.setMem x).pending = s.pending := rfl
@[simp] theorem State.setMem_self (s : State) : s.setMem s.mem = s := rfl
@[simp] theorem State.setMem_setMem (s : State) (x y : Memory) : (s.setMem x).setMem y = s.setMem y := rfl

@[simp] theorem State.setHost_mem (s : State) (x : HostPort) : (s.setHost x).mem = s.mem := rfl
@[simp] theorem State.setHost_host (s : State) (x : HostPort) : (s.setHost x).host = x := rfl
@[simp] theorem State.setHost_decoder (s : State) (x : HostPort) : (s.setHost x).decoder = s.decoder := rfl
@[simp] theorem State.setHost_txn (s : State) (x : HostPort) : (s.setHost x).txn = s.txn := rfl
@[simp] theorem State.setHost_journal (s : State) (x : HostPort) : (s.setHost x).journal = s.journal := rfl
@[simp] theorem State.setHost_tracker (s : State) (x : HostPort) : (s.setHost x).tracker = s.tracker := rfl
@[simp] theorem State.setHost_engine (s : State) (x : HostPort) : (s.setHost x).engine = s.engine := rfl
@[simp] theorem State.setHost_port (s : State) (x : HostPort) : (s.setHost x).port = s.port := rfl
@[simp] theorem State.setHost_control (s : State) (x : HostPort) : (s.setHost x).control = s.control := rfl
@[simp] theorem State.setHost_command (s : State) (x : HostPort) : (s.setHost x).command = s.command := rfl
@[simp] theorem State.setHost_status (s : State) (x : HostPort) : (s.setHost x).status = s.status := rfl
@[simp] theorem State.setHost_config (s : State) (x : HostPort) : (s.setHost x).config = s.config := rfl
@[simp] theorem State.setHost_warning (s : State) (x : HostPort) : (s.setHost x).warning = s.warning := rfl
@[simp] theorem State.setHost_resetting (s : State) (x : HostPort) : (s.setHost x).resetting = s.resetting := rfl
@[simp] theorem State.setHost_free (s : State) (x : HostPort) : (s.setHost x).free = s.free := rfl
@[simp] theorem State.setHost_pending (s : State) (x : HostPort) : (s.setHost x).pending = s.pending := rfl
@[simp] theorem State.setHost_self (s : State) : s.setHost s.host = s := rfl
@[simp] theorem State.setHost_setHost (s : State) (x y : HostPort) : (s.setHost x).setHost y = s.setHost y := rfl

@[simp] theorem State.setDecoder_mem (s : State) (x : Decoder) : (s.setDecoder x).mem = s.mem := rfl
@[simp] theorem State.setDecoder_host (s : State) (x : Decoder) : (s.setDecoder x).host = s.host := rfl
@[simp] theorem State.setDecoder_decoder (s : State) (x : Decoder) : (s.setDecoder x).decoder = x := rfl
@[simp] theorem State.setDecoder_txn (s : State) (x : Decoder) : (s.setDecoder x).txn = s.txn := rfl
@[simp] theorem State.setDecoder_journal (s : State) (x : Decoder) : (s.setDecoder x).journal = s.journal := rfl
@[simp] theorem State.setDecoder_tracker (s : State) (x : Decoder) : (s.setDecoder x).tracker = s.tracker := rfl
@[simp] theorem State.setDecoder_engine (s : State) (x : Decoder) : (s.setDecoder x).engine = s.engine := rfl
@[simp] theorem State.setDecoder_port (s : State) (x : Decoder) : (s.setDecoder x).port = s.port := rfl
@[simp] theorem State.setDecoder_control (s : State) (x : Decoder) : (s.setDecoder x).control = s.control := rfl
@[simp] theorem State.setDecoder_command (s : State) (x : Decoder) : (s.setDecoder x).command = s.command := rfl
@[simp] theorem State.setDecoder_status (s : State) (x : Decoder) : (s.setDecoder x).status = s.status := rfl
@[simp] theorem State.setDecoder_config (s : State) (x : Decoder) : (s.setDecoder x).config = s.config := rfl
@[simp] theorem State.setDecoder_warning (s : State) (x : Decoder) : (s.setDecoder x).warning = s.warning := rfl
@[simp] theorem State.setDecoder_resetting (s : State) (x : Decoder) : (s.setDecoder x).resetting = s.resetting := rfl
@[simp] theorem State.setDecoder_free (s : State) (x : Decoder) : (s.setDecoder x).free = s.free := rfl
@[simp] theorem State.setDecoder_pending (s : State) (x : Decoder) : (s.setDecoder x).pending = s.pending := rfl
@[simp] theorem State.setDecoder_self (s : State) : s.setDecoder s.decoder = s := rfl
@[simp] theorem State.setDecoder_setDecoder (s : State) (x y : Decoder) : (s.setDecoder x).setDecoder y = s.setDecoder y := rfl

@[simp] theorem State.setTxn_mem (s : State) (x : Controller) : (s.setTxn x).mem = s.mem := rfl
@[simp] theorem State.setTxn_host (s : State) (x : Controller) : (s.setTxn x).host = s.host := rfl
@[simp] theorem State.setTxn_decoder (s : State) (x : Controller) : (s.setTxn x).decoder = s.decoder := rfl
@[simp] theorem State.setTxn_txn (s : State) (x : Controller) : (s.setTxn x).txn = x := rfl
@[simp] theorem State.setTxn_journal (s : State) (x : Controller) : (s.setTxn x).journal = s.journal := rfl
@[simp] theorem State.setTxn_tracker (s : State) (x : Controller) : (s.setTxn x).tracker = s.tracker := rfl
@[simp] theorem State.setTxn_engine (s : State) (x : Controller) : (s.setTxn x).engine = s.engine := rfl
@[simp] theorem State.setTxn_port (s : State) (x : Controller) : (s.setTxn x).port = s.port := rfl
@[simp] theorem State.setTxn_control (s : State) (x : Controller) : (s.setTxn x).control = s.control := rfl
@[simp] theorem State.setTxn_command (s : State) (x : Controller) : (s.setTxn x).command = s.command := rfl
@[simp] theorem State.setTxn_status (s : State) (x : Controller) : (s.setTxn x).status = s.status := rfl
@[simp] theorem State.setTxn_config (s : State) (x : Controller) : (s.setTxn x).config = s.config := rfl
@[simp] theorem State.setTxn_warning (s : State) (x : Controller) : (s.setTxn x).warning = s.warning := rfl
@[simp] theorem State.setTxn_resetting (s : State) (x : Controller) : (s.setTxn x).resetting = s.resetting := rfl
@[simp] theorem State.setTxn_free (s : State) (x : Controller) : (s.setTxn x).free = s.free := rfl
@[simp] theorem State.setTxn_pending (s : State) (x : Controller) : (s.setTxn x).pending = s.pending := rfl
@[simp] theorem State.setTxn_self (s : State) : s.setTxn s.txn = s := rfl
@[simp] theorem State.setTxn_setTxn (s : State) (x y : Controller) : (s.setTxn x).setTxn y = s.setTxn y := rfl

@[simp] theorem State.setJournal_mem (s : State) (x : Journal) : (s.setJournal x).mem = s.mem := rfl
@[simp] theorem State.setJournal_host (s : State) (x : Journal) : (s.setJournal x).host = s.host := rfl
@[simp] theorem State.setJournal_decoder (s : State) (x : Journal) : (s.setJournal x).decoder = s.decoder := rfl
@[simp] theorem State.setJournal_txn (s : State) (x : Journal) : (s.setJournal x).txn = s.txn := rfl
@[simp] theorem State.setJournal_journal (s : State) (x : Journal) : (s.setJournal x).journal = x := rfl
@[simp] theorem State.setJournal_tracker (s : State) (x : Journal) : (s.setJournal x).tracker = s.tracker := rfl
@[simp] theorem State.setJournal_engine (s : State) (x : Journal) : (s.setJournal x).engine = s.engine := rfl
@[simp] theorem State.setJournal_port (s : State) (x : Journal) : (s.setJournal x).port = s.port := rfl
@[simp] theorem State.setJournal_control (s : State) (x : Journal) : (s.setJournal x).control = s.control := rfl
@[simp] theorem State.setJournal_command (s : State) (x : Journal) : (s.setJournal x).command = s.command := rfl
@[simp] theorem State.setJournal_status (s : State) (x : Journal) : (s.setJournal x).status = s.status := rfl
@[simp] theorem State.setJournal_config (s : State) (x : Journal) : (s.setJournal x).config = s.config := rfl
@[simp] theorem State.setJournal_warning (s : State) (x : Journal) : (s.setJournal x).warning = s.warning := rfl
@[simp] theorem State.setJournal_resetting (s : State) (x : Journal) : (s.setJournal x).resetting = s.resetting := rfl
@[simp] theorem State.setJournal_free (s : State) (x : Journal) : (s.setJournal x).free = s.free := rfl
@[simp] theorem State.setJournal_pending (s : State) (x : Journal) : (s.setJournal x).pending = s.pending := rfl
@[simp] theorem State.setJournal_self (s : State) : s.setJournal s.journal = s := rfl
@[simp] theorem State.setJournal_setJournal (s : State) (x y : Journal) : (s.setJournal x).setJournal y = s.setJournal y := rfl

@[simp] theorem State.setTracker_mem (s : State) (x : List TrackerEntry) : (s.setTracker x).mem = s.mem := rfl
@[simp] theorem State.setTracker_host (s : State) (x : List TrackerEntry) : (s.setTracker x).host = s.host := rfl
@[simp] theorem State.setTracker_decoder (s : State) (x : List TrackerEntry) : (s.setTracker x).decoder = s.decoder := rfl
@[simp] theorem State.setTracker_txn (s : State) (x : List TrackerEntry) : (s.setTracker x).txn = s.txn := rfl
@[simp] theorem State.setTracker_journal (s : State) (x : List TrackerEntry) : (s.setTracker x).journal = s.journal := rfl
@[simp] theorem State.setTracker_tracker (s : State) (x : List TrackerEntry) : (s.setTracker x).tracker = x := rfl
@[simp] theorem State.setTracker_engine (s : State) (x : List TrackerEntry) : (s.setTracker x).engine = s.engine := rfl
@[simp] theorem State.setTracker_port (s : State) (x : List TrackerEntry) : (s.setTracker x).port = s.port := rfl
@[simp] theorem State.setTracker_control (s : State) (x : List TrackerEntry) : (s.setTracker x).control = s.control := rfl
@[simp] theorem State.setTracker_command (s : State) (x : List TrackerEntry) : (s.setTracker x).command = s.command := rfl
@[simp] theorem State.setTracker_status (s : State) (x : List TrackerEntry) : (s.setTracker x).status = s.status := rfl
@[simp] theorem State.setTracker_config (s : State) (x : List TrackerEntry) : (s.setTracker x).config = s.config := rfl
@[simp] theorem State.setTracker_warning (s : State) (x : List TrackerEntry) : (s.setTracker x).warning = s.warning := rfl
@[simp] theorem State.setTracker_resetting (s : State) (x : List TrackerEntry) : (s.setTracker x).resetting = s.resetting := rfl
@[simp] theorem State.setTracker_free (s : State) (x : List TrackerEntry) : (s.setTracker x).free = s.free := rfl
@[simp] theorem State.setTracker_pending (s : State) (x : List TrackerEntry) : (s.setTracker x).pending = s.pending := rfl
@[simp] theorem State.setTracker_self (s : State) : s.setTracker s.tracker = s := rfl
@[simp] theorem State.setTracker_setTracker (s : State) (x y : List TrackerEntry) : (s.setTracker x).setTracker y = s.setTracker y := rfl

@[simp] theorem State.setEngine_mem (s : State) (x : Engine) : (s.setEngine x).mem = s.mem := rfl
@[simp] theorem State.setEngine_host (s : State) (x : Engine) : (s.setEngine x).host = s.host := rfl
@[simp] theorem State.setEngine_decoder (s : State) (x : Engine) : (s.setEngine x).decoder = s.decoder := rfl
@[simp] theorem State.setEngine_txn (s : State) (x : Engine) : (s.setEngine x).txn = s.txn := rfl
@[simp] theorem State.setEngine_journal (s : State) (x : Engine) : (s.setEngine x).journal = s.journal := rfl
@[simp] theorem State.setEngine_tracker (s : State) (x : Engine) : (s.setEngine x).tracker = s.tracker := rfl
@[simp] theorem State.setEngine_engine (s : State) (x : Engine) : (s.setEngine x).engine = x := rfl
@[simp] theorem State.setEngine_port (s : State) (x : Engine) : (s.setEngine x).port = s.port := rfl
@[simp] theorem State.setEngine_control (s : State) (x : Engine) : (s.setEngine x).control = s.control := rfl
@[simp] theorem State.setEngine_command (s : State) (x : Engine) : (s.setEngine x).command = s.command := rfl
@[simp] theorem State.setEngine_status (s : State) (x : Engine) : (s.setEngine x).status = s.status := rfl
@[simp] theorem State.setEngine_config (s : State) (x : Engine) : (s.setEngine x).config = s.config := rfl
@[simp] theorem State.setEngine_warning (s : State) (x : Engine) : (s.setEngine x).warning = s.warning := rfl
@[simp] theorem State.setEngine_resetting (s : State) (x : Engine) : (s.setEngine x).resetting = s.resetting := rfl
@[simp] theorem State.setEngine_free (s : State) (x : Engine) : (s.setEngine x).free = s.free := rfl
@[simp] theorem State.setEngine_pending (s : State) (x : Engine) : (s.setEngine x).pending = s.pending := rfl
@[simp] theorem State.setEngine_self (s : State) : s.setEngine s.engine = s := rfl
@[simp] theorem State.setEngine_setEngine (s : State) (x y : Engine) : (s.setEngine x).setEngine y = s.setEngine y := rfl

@[simp] theorem State.setPort_mem (s : State) (x : Port) : (s.setPort x).mem = s.mem := rfl
@[simp] theorem State.setPort_host (s : State) (x : Port) : (s.setPort x).host = s.host := rfl
@[simp] theorem State.setPort_decoder (s : State) (x : Port) : (s.setPort x).decoder = s.decoder := rfl
@[simp] theorem State.setPort_txn (s : State) (x : Port) : (s.setPort x).txn = s.txn := rfl
@[simp] theorem State.setPort_journal (s : State) (x : Port) : (s.setPort x).journal = s.journal := rfl
@[simp] theorem State.setPort_tracker (s : State) (x : Port) : (s.setPort x).tracker = s.tracker := rfl
@[simp] theorem State.setPort_engine (s : State) (x : Port) : (s.setPort x).engine = s.engine := rfl
@[simp] theorem State.setPort_port (s : State) (x : Port) : (s.setPort x).port = x := rfl
@[simp] theorem State.setPort_control (s : State) (x : Port) : (s.setPort x).control = s.control := rfl
@[simp] theorem State.setPort_command (s : State) (x : Port) : (s.setPort x).command = s.command := rfl
@[simp] theorem State.setPort_status (s : State) (x : Port) : (s.setPort x).status = s.status := rfl
@[simp] theorem State.setPort_config (s : State) (x : Port) : (s.setPort x).config = s.config := rfl
@[simp] theorem State.setPort_warning (s : State) (x : Port) : (s.setPort x).warning = s.warning := rfl
@[simp] theorem State.setPort_resetting (s : State) (x : Port) : (s.setPort x).resetting = s.resetting := rfl
@[simp] theorem State.setPort_free (s : State) (x : Port) : (s.setPort x).free = s.free := rfl
@[simp] theorem State.setPort_pending (s : State) (x : Port) : (s.setPort x).pending = s.pending := rfl
@[simp] theorem State.setPort_self (s : State) : s.setPort s.port = s := rfl
@[simp] theorem State.setPort_setPort (s : State) (x y : Port) : (s.setPort x).setPort y = s.setPort y := rfl

@[simp] theorem State.setControl_mem (s : State) (x : ControlUnit) : (s.setControl x).mem = s.mem := rfl
@[simp] theorem State.setControl_host (s : State) (x : ControlUnit) : (s.setControl x).host = s.host := rfl
@[simp] theorem State.setControl_decoder (s : State) (x : ControlUnit) : (s.setControl x).decoder = s.decoder := rfl
@[simp] theorem State.setControl_txn (s : State) (x : ControlUnit) : (s.setControl x).txn = s.txn := rfl
@[simp] theorem State.setControl_journal (s : State) (x : ControlUnit) : (s.setControl x).journal = s.journal := rfl
@[simp] theorem State.setControl_tracker (s : State) (x : ControlUnit) : (s.setControl x).tracker = s.tracker := rfl
@[simp] theorem State.setControl_engine (s : State) (x : ControlUnit) : (s.setControl x).engine = s.engine := rfl
@[simp] theorem State.setControl_port (s : State) (x : ControlUnit) : (s.setControl x).port = s.port := rfl
@[simp] theorem State.setControl_control (s : State) (x : ControlUnit) : (s.setControl x).control = x := rfl
@[simp] theorem State.setControl_command (s : State) (x : ControlUnit) : (s.setControl x).command = s.command := rfl
@[simp] theorem State.setControl_status (s : State) (x : ControlUnit) : (s.setControl x).status = s.status := rfl
@[simp] theorem State.setControl_config (s : State) (x : ControlUnit) : (s.setControl x).config = s.config := rfl
@[simp] theorem State.setControl_warning (s : State) (x : ControlUnit) : (s.setControl x).warning = s.warning := rfl
@[simp] theorem State.setControl_resetting (s : State) (x : ControlUnit) : (s.setControl x).resetting = s.resetting := rfl
@[simp] theorem State.setControl_free (s : State) (x : ControlUnit) : (s.setControl x).free = s.free := rfl
@[simp] theorem State.setControl_pending (s : State) (x : ControlUnit) : (s.setControl x).pending = s.pending := rfl
@[simp] theorem State.setControl_self (s : State) : s.setControl s.control = s := rfl
@[simp] theorem State.setControl_setControl (s : State) (x y : ControlUnit) : (s.setControl x).setControl y = s.setControl y := rfl

@[simp] theorem State.setCommand_mem (s : State) (x : CommandPort) : (s.setCommand x).mem = s.mem := rfl
@[simp] theorem State.setCommand_host (s : State) (x : CommandPort) : (s.setCommand x).host = s.host := rfl
@[simp] theorem State.setCommand_decoder (s : State) (x : CommandPort) : (s.setCommand x).decoder = s.decoder := rfl
@[simp] theorem State.setCommand_txn (s : State) (x : CommandPort) : (s.setCommand x).txn = s.txn := rfl
@[simp] theorem State.setCommand_journal (s : State) (x : CommandPort) : (s.setCommand x).journal = s.journal := rfl
@[simp] theorem State.setCommand_tracker (s : State) (x : CommandPort) : (s.setCommand x).tracker = s.tracker := rfl
@[simp] theorem State.setCommand_engine (s : State) (x : CommandPort) : (s.setCommand x).engine = s.engine := rfl
@[simp] theorem State.setCommand_port (s : State) (x : CommandPort) : (s.setCommand x).port = s.port := rfl
@[simp] theorem State.setCommand_control (s : State) (x : CommandPort) : (s.setCommand x).control = s.control := rfl
@[simp] theorem State.setCommand_command (s : State) (x : CommandPort) : (s.setCommand x).command = x := rfl
@[simp] theorem State.setCommand_status (s : State) (x : CommandPort) : (s.setCommand x).status = s.status := rfl
@[simp] theorem State.setCommand_config (s : State) (x : CommandPort) : (s.setCommand x).config = s.config := rfl
@[simp] theorem State.setCommand_warning (s : State) (x : CommandPort) : (s.setCommand x).warning = s.warning := rfl
@[simp] theorem State.setCommand_resetting (s : State) (x : CommandPort) : (s.setCommand x).resetting = s.resetting := rfl
@[simp] theorem State.setCommand_free (s : State) (x : CommandPort) : (s.setCommand x).free = s.free := rfl
@[simp] theorem State.setCommand_pending (s : State) (x : CommandPort) : (s.setCommand x).pending = s.pending := rfl
@[simp] theorem State.setCommand_self (s : State) : s.setCommand s.command = s := rfl
@[simp] theorem State.setCommand_setCommand (s : State) (x y : CommandPort) : (s.setCommand x).setCommand y = s.setCommand y := rfl

@[simp] theorem State.setStatus_mem (s : State) (x : Status) : (s.setStatus x).mem = s.mem := rfl
@[simp] theorem State.setStatus_host (s : State) (x : Status) : (s.setStatus x).host = s.host := rfl
@[simp] theorem State.setStatus_decoder (s : State) (x : Status) : (s.setStatus x).decoder = s.decoder := rfl
@[simp] theorem State.setStatus_txn (s : State) (x : Status) : (s.setStatus x).txn = s.txn := rfl
@[simp] theorem State.setStatus_journal (s : State) (x : Status) : (s.setStatus x).journal = s.journal := rfl
@[simp] theorem State.setStatus_tracker (s : State) (x : Status) : (s.setStatus x).tracker = s.tracker := rfl
@[simp] theorem State.setStatus_engine (s : State) (x : Status) : (s.setStatus x).engine = s.engine := rfl
@[simp] theorem State.setStatus_port (s : State) (x : Status) : (s.setStatus x).port = s.port := rfl
@[simp] theorem State.setStatus_control (s : State) (x : Status) : (s.setStatus x).control = s.control := rfl
@[simp] theorem State.setStatus_command (s : State) (x : Status) : (s.setStatus x).command = s.command := rfl
@[simp] theorem State.setStatus_status (s : State) (x : Status) : (s.setStatus x).status = x := rfl
@[simp] theorem State.setStatus_config (s : State) (x : Status) : (s.setStatus x).config = s.config := rfl
@[simp] theorem State.setStatus_warning (s : State) (x : Status) : (s.setStatus x).warning = s.warning := rfl
@[simp] theorem State.setStatus_resetting (s : State) (x : Status) : (s.setStatus x).resetting = s.resetting := rfl
@[simp] theorem State.setStatus_free (s : State) (x : Status) : (s.setStatus x).free = s.free := rfl
@[simp] theorem State.setStatus_pending (s : State) (x : Status) : (s.setStatus x).pending = s.pending := rfl
@[simp] theorem State.setStatus_self (s : State) : s.setStatus s.status = s := rfl
@[simp] theorem State.setStatus_setStatus (s : State) (x y : Status) : (s.setStatus x).setStatus y = s.setStatus y := rfl

@[simp] theorem State.setConfig_mem (s : State) (x : ConfigUnit) : (s.setConfig x).mem = s.mem := rfl
@[simp] theorem State.setConfig_host (s : State) (x : ConfigUnit) : (s.setConfig x).host = s.host := rfl
@[simp] theorem State.setConfig_decoder (s : State) (x : ConfigUnit) : (s.setConfig x).decoder = s.decoder := rfl
@[simp] theorem State.setConfig_txn (s : State) (x : ConfigUnit) : (s.setConfig x).txn = s.txn := rfl
@[simp] theorem State.setConfig_journal (s : State) (x : ConfigUnit) : (s.setConfig x).journal = s.journal := rfl
@[simp] theorem State.setConfig_tracker (s : State) (x : ConfigUnit) : (s.setConfig x).tracker = s.tracker := rfl
@[simp] theorem State.setConfig_engine (s : State) (x : ConfigUnit) : (s.setConfig x).engine = s.engine := rfl
@[simp] theorem State.setConfig_port (s : State) (x : ConfigUnit) : (s.setConfig x).port = s.port := rfl
@[simp] theorem State.setConfig_control (s : State) (x : ConfigUnit) : (s.setConfig x).control = s.control := rfl
@[simp] theorem State.setConfig_command (s : State) (x : ConfigUnit) : (s.setConfig x).command = s.command := rfl
@[simp] theorem State.setConfig_status (s : State) (x : ConfigUnit) : (s.setConfig x).status = s.status := rfl
@[simp] theorem State.setConfig_config (s : State) (x : ConfigUnit) : (s.setConfig x).config = x := rfl
@[simp] theorem State.setConfig_warning (s : State) (x : ConfigUnit) : (s.setConfig x).warning = s.warning := rfl
@[simp] theorem State.setConfig_resetting (s : State) (x : ConfigUnit) : (s.setConfig x).resetting = s.resetting := rfl
@[simp] theorem State.setConfig_free (s : State) (x : ConfigUnit) : (s.setConfig x).free = s.free := rfl
@[simp] theorem State.setConfig_pending (s : State) (x : ConfigUnit) : (s.setConfig x).pending = s.pending := rfl
@[simp] theorem State.setConfig_self (s : State) : s.setConfig s.config = s := rfl
@[simp] theorem State.setConfig_setConfig (s : State) (x y : ConfigUnit) : (s.setConfig x).setConfig y = s.setConfig y := rfl

@[simp] theorem State.setWarning_mem (s : State) (x : Bool) : (s.setWarning x).mem = s.mem := rfl
@[simp] theorem State.setWarning_host (s : State) (x : Bool) : (s.setWarning x).host = s.host := rfl
@[simp] theorem State.setWarning_decoder (s : State) (x : Bool) : (s.setWarning x).decoder = s.decoder := rfl
@[simp] theorem State.setWarning_txn (s : State) (x : Bool) : (s.setWarning x).txn = s.txn := rfl
@[simp] theorem State.setWarning_journal (s : State) (x : Bool) : (s.setWarning x).journal = s.journal := rfl
@[simp] theorem State.setWarning_tracker (s : State) (x : Bool) : (s.setWarning x).tracker = s.tracker := rfl
@[simp] theorem State.setWarning_engine (s : State) (x : Bool) : (s.setWarning x).engine = s.engine := rfl
@[simp] theorem State.setWarning_port (s : State) (x : Bool) : (s.setWarning x).port = s.port := rfl
@[simp] theorem State.setWarning_control (s : State) (x : Bool) : (s.setWarning x).control = s.control := rfl
@[simp] theorem State.setWarning_command (s : State) (x : Bool) : (s.setWarning x).command = s.command := rfl
@[simp] theorem State.setWarning_status (s : State) (x : Bool) : (s.setWarning x).status = s.status := rfl
@[simp] theorem State.setWarning_config (s : State) (x : Bool) : (s.setWarning x).config = s.config := rfl
@[simp] theorem State.setWarning_warning (s : State) (x : Bool) : (s.setWarning x).warning = x := rfl
@[simp] theorem State.setWarning_resetting (s : State) (x : Bool) : (s.setWarning x).resetting = s.resetting := rfl
@[simp] theorem State.setWarning_free (s : State) (x : Bool) : (s.setWarning x).free = s.free := rfl
@[simp] theorem State.setWarning_pending (s : State) (x : Bool) : (s.setWarning x).pending = s.pending := rfl
@[simp] theorem State.setWarning_self (s : State) : s.setWarning s.warning = s := rfl
@[simp] theorem State.setWarning_setWarning (s : State) (x y : Bool) : (s.setWarning x).setWarning y = s.setWarning y := rfl

@[simp] theorem State.setResetting_mem (s : State) (x : Bool) : (s.setResetting x).mem = s.mem := rfl
@[simp] theorem State.setResetting_host (s : State) (x : Bool) : (s.setResetting x).host = s.host := rfl
@[simp] theorem State.setResetting_decoder (s : State) (x : Bool) : (s.setResetting x).decoder = s.decoder := rfl
@[simp] theorem State.setResetting_txn (s : State) (x : Bool) : (s.setResetting x).txn = s.txn := rfl
@[simp] theorem State.setResetting_journal (s : State) (x : Bool) : (s.setResetting x).journal = s.journal := rfl
@[simp] theorem State.setResetting_tracker (s : State) (x : Bool) : (s.setResetting x).tracker = s.tracker := rfl
@[simp] theorem State.setResetting_engine (s : State) (x : Bool) : (s.setResetting x).engine = s.engine := rfl
@[simp] theorem State.setResetting_port (s : State) (x : Bool) : (s.setResetting x).port = s.port := rfl
@[simp] theorem State.setResetting_control (s : State) (x : Bool) : (s.setResetting x).control = s.control := rfl
@[simp] theorem State.setResetting_command (s : State) (x : Bool) : (s.setResetting x).command = s.command := rfl
@[simp] theorem State.setResetting_status (s : State) (x : Bool) : (s.setResetting x).status = s.status := rfl
@[simp] theorem State.setResetting_config (s : State) (x : Bool) : (s.setResetting x).config = s.config := rfl
@[simp] theorem State.setResetting_warning (s : State) (x : Bool) : (s.setResetting x).warning = s.warning := rfl
@[simp] theorem State.setResetting_resetting (s : State) (x : Bool) : (s.setResetting x).resetting = x := rfl
@[simp] theorem State.setResetting_free (s : State) (x : Bool) : (s.setResetting x).free = s.free := rfl
@[simp] theorem State.setResetting_pending (s : State) (x : Bool) : (s.setResetting x).pending = s.pending := rfl
@[simp] theorem State.setResetting_self (s : State) : s.setResetting s.resetting = s := rfl
@[simp] theorem State.setResetting_setResetting (s : State) (x y : Bool) : (s.setResetting x).setResetting y = s.setResetting y := rfl

@[simp] theorem State.setFree_mem (s : State) (x : Nat) : (s.setFree x).mem = s.mem := rfl
@[simp] theorem State.setFree_host (s : State) (x : Nat) : (s.setFree x).host = s.host := rfl
@[simp] theorem State.setFree_decoder (s : State) (x : Nat) : (s.setFree x).decoder = s.decoder := rfl
@[simp] theorem State.setFree_txn (s : State) (x : Nat) : (s.setFree x).txn = s.txn := rfl
@[simp] theorem State.setFree_journal (s : State) (x : Nat) : (s.setFree x).journal = s.journal := rfl
@[simp] theorem State.setFree_tracker (s : State) (x : Nat) : (s.setFree x).tracker = s.tracker := rfl
@[simp] theorem State.setFree_engine (s : State) (x : Nat) : (s.setFree x).engine = s.engine := rfl
@[simp] theorem State.setFree_port (s : State) (x : Nat) : (s.setFree x).port = s.port := rfl
@[simp] theorem State.setFree_control (s : State) (x : Nat) : (s.setFree x).control = s.control := rfl
@[simp] theorem State.setFree_command (s : State) (x : Nat) : (s.setFree x).command = s.command := rfl
@[simp] theorem State.setFree_status (s : State) (x : Nat) : (s.setFree x).status = s.status := rfl
@[simp] theorem State.setFree_config (s : State) (x : Nat) : (s.setFree x).config = s.config := rfl
@[simp] theorem State.setFree_warning (s : State) (x : Nat) : (s.setFree x).warning = s.warning := rfl
@[simp] theorem State.setFree_resetting (s : State) (x : Nat) : (s.setFree x).resetting = s.resetting := rfl
@[simp] theorem State.setFree_free (s : State) (x : Nat) : (s.setFree x).free = x := rfl
@[simp] theorem State.setFree_pending (s : State) (x : Nat) : (s.setFree x).pending = s.pending := rfl
@[simp] theorem State.setFree_self (s : State) : s.setFree s.free = s := rfl
@[simp] theorem State.setFree_setFree (s : State) (x y : Nat) : (s.setFree x).setFree y = s.setFree y := rfl

@[simp] theorem State.setPending_mem (s : State) (x : List Instr) : (s.setPending x).mem = s.mem := rfl
@[simp] theorem State.setPending_host (s : State) (x : List Instr) : (s.setPending x).host = s.host := rfl
@[simp] theorem State.setPending_decoder (s : State) (x : List Instr) : (s.setPending x).decoder = s.decoder := rfl
@[simp] theorem State.setPending_txn (s : State) (x : List Instr) : (s.setPending x).txn = s.txn := rfl
@[simp] theorem State.setPending_journal (s : State) (x : List Instr) : (s.setPending x).journal = s.journal := rfl
@[simp] theorem State.setPending_tracker (s : State) (x : List Instr) : (s.setPending x).tracker = s.tracker := rfl
@[simp] theorem State.setPending_engine (s : State) (x : List Instr) : (s.setPending x).engine = s.engine := rfl
@[simp] theorem State.setPending_port (s : State) (x : List Instr) : (s.setPending x).port = s.port := rfl
@[simp] theorem State.setPending_control (s : State) (x : List Instr) : (s.setPending x).control = s.control := rfl
@[simp] theorem State.setPending_command (s : State) (x : List Instr) : (s.setPending x).command = s.command := rfl
@[simp] theorem State.setPending_status (s : State) (x : List Instr) : (s.setPending x).status = s.status := rfl
@[simp] theorem State.setPending_config (s : State) (x : List Instr) : (s.setPending x).config = s.config := rfl
@[simp] theorem State.setPending_warning (s : State) (x : List Instr) : (s.setPending x).warning = s.warning := rfl
@[simp] theorem State.setPending_resetting (s : State) (x : List Instr) : (s.setPending x).resetting = s.resetting := rfl
@[simp] theorem State.setPending_free (s : State) (x : List Instr) : (s.setPending x).free = s.free := rfl
@[simp] theorem State.setPending_pending (s : State) (x : List Instr) : (s.setPending x).pending = x := rfl
@[simp] theorem State.setPending_self (s : State) : s.setPending s.pending = s := rfl
@[simp] theorem State.setPending_setPending (s : State) (x y : List Instr) : (s.setPending x).setPending y = s.setPending y := rfl

end Sys2Proof.Machine
end

