-- ==== Sys2Proof/Laws/OpsFrames.lean ====
section
/-! SUPPORT. What each shared operation of Machine/Ops.lean leaves unchanged, block by block. -/

-- One declaration at a time: the package as one text then needs few threads.
set_option Elab.async false

namespace Sys2Proof.Machine

@[simp] theorem State.claimHost_mem (s : State) :
    (State.claimHost s).mem = s.mem := by simp [State.claimHost]
@[simp] theorem State.claimHost_host (s : State) :
    (State.claimHost s).host = s.host := by simp [State.claimHost]
@[simp] theorem State.claimHost_decoder (s : State) :
    (State.claimHost s).decoder = s.decoder := by simp [State.claimHost]
@[simp] theorem State.claimHost_txn (s : State) :
    (State.claimHost s).txn = s.txn := by simp [State.claimHost]
@[simp] theorem State.claimHost_journal (s : State) :
    (State.claimHost s).journal = s.journal := by simp [State.claimHost]
@[simp] theorem State.claimHost_tracker (s : State) :
    (State.claimHost s).tracker = s.tracker := by simp [State.claimHost]
@[simp] theorem State.claimHost_engine (s : State) :
    (State.claimHost s).engine = s.engine := by simp [State.claimHost]
@[simp] theorem State.claimHost_control (s : State) :
    (State.claimHost s).control = s.control := by simp [State.claimHost]
@[simp] theorem State.claimHost_command (s : State) :
    (State.claimHost s).command = s.command := by simp [State.claimHost]
@[simp] theorem State.claimHost_status (s : State) :
    (State.claimHost s).status = s.status := by simp [State.claimHost]
@[simp] theorem State.claimHost_config (s : State) :
    (State.claimHost s).config = s.config := by simp [State.claimHost]
@[simp] theorem State.claimHost_warning (s : State) :
    (State.claimHost s).warning = s.warning := by simp [State.claimHost]
@[simp] theorem State.claimHost_resetting (s : State) :
    (State.claimHost s).resetting = s.resetting := by simp [State.claimHost]
@[simp] theorem State.claimHost_free (s : State) :
    (State.claimHost s).free = s.free := by simp [State.claimHost]
@[simp] theorem State.claimHost_pending (s : State) :
    (State.claimHost s).pending = s.pending := by simp [State.claimHost]

@[simp] theorem State.claimControl_mem (s : State) :
    (State.claimControl s).mem = s.mem := by simp [State.claimControl]
@[simp] theorem State.claimControl_host (s : State) :
    (State.claimControl s).host = s.host := by simp [State.claimControl]
@[simp] theorem State.claimControl_decoder (s : State) :
    (State.claimControl s).decoder = s.decoder := by simp [State.claimControl]
@[simp] theorem State.claimControl_txn (s : State) :
    (State.claimControl s).txn = s.txn := by simp [State.claimControl]
@[simp] theorem State.claimControl_journal (s : State) :
    (State.claimControl s).journal = s.journal := by simp [State.claimControl]
@[simp] theorem State.claimControl_tracker (s : State) :
    (State.claimControl s).tracker = s.tracker := by simp [State.claimControl]
@[simp] theorem State.claimControl_engine (s : State) :
    (State.claimControl s).engine = s.engine := by simp [State.claimControl]
@[simp] theorem State.claimControl_control (s : State) :
    (State.claimControl s).control = s.control := by simp [State.claimControl]
@[simp] theorem State.claimControl_command (s : State) :
    (State.claimControl s).command = s.command := by simp [State.claimControl]
@[simp] theorem State.claimControl_status (s : State) :
    (State.claimControl s).status = s.status := by simp [State.claimControl]
@[simp] theorem State.claimControl_config (s : State) :
    (State.claimControl s).config = s.config := by simp [State.claimControl]
@[simp] theorem State.claimControl_warning (s : State) :
    (State.claimControl s).warning = s.warning := by simp [State.claimControl]
@[simp] theorem State.claimControl_resetting (s : State) :
    (State.claimControl s).resetting = s.resetting := by simp [State.claimControl]
@[simp] theorem State.claimControl_free (s : State) :
    (State.claimControl s).free = s.free := by simp [State.claimControl]
@[simp] theorem State.claimControl_pending (s : State) :
    (State.claimControl s).pending = s.pending := by simp [State.claimControl]

@[simp] theorem State.claimEngine_mem (s : State) :
    (State.claimEngine s).mem = s.mem := by simp [State.claimEngine]
@[simp] theorem State.claimEngine_host (s : State) :
    (State.claimEngine s).host = s.host := by simp [State.claimEngine]
@[simp] theorem State.claimEngine_decoder (s : State) :
    (State.claimEngine s).decoder = s.decoder := by simp [State.claimEngine]
@[simp] theorem State.claimEngine_txn (s : State) :
    (State.claimEngine s).txn = s.txn := by simp [State.claimEngine]
@[simp] theorem State.claimEngine_journal (s : State) :
    (State.claimEngine s).journal = s.journal := by simp [State.claimEngine]
@[simp] theorem State.claimEngine_tracker (s : State) :
    (State.claimEngine s).tracker = s.tracker := by simp [State.claimEngine]
@[simp] theorem State.claimEngine_engine (s : State) :
    (State.claimEngine s).engine = s.engine := by simp [State.claimEngine]
@[simp] theorem State.claimEngine_control (s : State) :
    (State.claimEngine s).control = s.control := by simp [State.claimEngine]
@[simp] theorem State.claimEngine_command (s : State) :
    (State.claimEngine s).command = s.command := by simp [State.claimEngine]
@[simp] theorem State.claimEngine_status (s : State) :
    (State.claimEngine s).status = s.status := by simp [State.claimEngine]
@[simp] theorem State.claimEngine_config (s : State) :
    (State.claimEngine s).config = s.config := by simp [State.claimEngine]
@[simp] theorem State.claimEngine_warning (s : State) :
    (State.claimEngine s).warning = s.warning := by simp [State.claimEngine]
@[simp] theorem State.claimEngine_resetting (s : State) :
    (State.claimEngine s).resetting = s.resetting := by simp [State.claimEngine]
@[simp] theorem State.claimEngine_free (s : State) :
    (State.claimEngine s).free = s.free := by simp [State.claimEngine]
@[simp] theorem State.claimEngine_pending (s : State) :
    (State.claimEngine s).pending = s.pending := by simp [State.claimEngine]

@[simp] theorem State.withdrawHost_mem (s : State) :
    (State.withdrawHost s).mem = s.mem := by simp [State.withdrawHost]
@[simp] theorem State.withdrawHost_host (s : State) :
    (State.withdrawHost s).host = s.host := by simp [State.withdrawHost]
@[simp] theorem State.withdrawHost_decoder (s : State) :
    (State.withdrawHost s).decoder = s.decoder := by simp [State.withdrawHost]
@[simp] theorem State.withdrawHost_txn (s : State) :
    (State.withdrawHost s).txn = s.txn := by simp [State.withdrawHost]
@[simp] theorem State.withdrawHost_journal (s : State) :
    (State.withdrawHost s).journal = s.journal := by simp [State.withdrawHost]
@[simp] theorem State.withdrawHost_tracker (s : State) :
    (State.withdrawHost s).tracker = s.tracker := by simp [State.withdrawHost]
@[simp] theorem State.withdrawHost_engine (s : State) :
    (State.withdrawHost s).engine = s.engine := by simp [State.withdrawHost]
@[simp] theorem State.withdrawHost_control (s : State) :
    (State.withdrawHost s).control = s.control := by simp [State.withdrawHost]
@[simp] theorem State.withdrawHost_command (s : State) :
    (State.withdrawHost s).command = s.command := by simp [State.withdrawHost]
@[simp] theorem State.withdrawHost_status (s : State) :
    (State.withdrawHost s).status = s.status := by simp [State.withdrawHost]
@[simp] theorem State.withdrawHost_config (s : State) :
    (State.withdrawHost s).config = s.config := by simp [State.withdrawHost]
@[simp] theorem State.withdrawHost_warning (s : State) :
    (State.withdrawHost s).warning = s.warning := by simp [State.withdrawHost]
@[simp] theorem State.withdrawHost_resetting (s : State) :
    (State.withdrawHost s).resetting = s.resetting := by simp [State.withdrawHost]
@[simp] theorem State.withdrawHost_free (s : State) :
    (State.withdrawHost s).free = s.free := by simp [State.withdrawHost]
@[simp] theorem State.withdrawHost_pending (s : State) :
    (State.withdrawHost s).pending = s.pending := by simp [State.withdrawHost]

@[simp] theorem State.withdrawEngine_mem (s : State) :
    (State.withdrawEngine s).mem = s.mem := by simp [State.withdrawEngine]
@[simp] theorem State.withdrawEngine_host (s : State) :
    (State.withdrawEngine s).host = s.host := by simp [State.withdrawEngine]
@[simp] theorem State.withdrawEngine_decoder (s : State) :
    (State.withdrawEngine s).decoder = s.decoder := by simp [State.withdrawEngine]
@[simp] theorem State.withdrawEngine_txn (s : State) :
    (State.withdrawEngine s).txn = s.txn := by simp [State.withdrawEngine]
@[simp] theorem State.withdrawEngine_journal (s : State) :
    (State.withdrawEngine s).journal = s.journal := by simp [State.withdrawEngine]
@[simp] theorem State.withdrawEngine_tracker (s : State) :
    (State.withdrawEngine s).tracker = s.tracker := by simp [State.withdrawEngine]
@[simp] theorem State.withdrawEngine_engine (s : State) :
    (State.withdrawEngine s).engine = s.engine := by simp [State.withdrawEngine]
@[simp] theorem State.withdrawEngine_control (s : State) :
    (State.withdrawEngine s).control = s.control := by simp [State.withdrawEngine]
@[simp] theorem State.withdrawEngine_command (s : State) :
    (State.withdrawEngine s).command = s.command := by simp [State.withdrawEngine]
@[simp] theorem State.withdrawEngine_status (s : State) :
    (State.withdrawEngine s).status = s.status := by simp [State.withdrawEngine]
@[simp] theorem State.withdrawEngine_config (s : State) :
    (State.withdrawEngine s).config = s.config := by simp [State.withdrawEngine]
@[simp] theorem State.withdrawEngine_warning (s : State) :
    (State.withdrawEngine s).warning = s.warning := by simp [State.withdrawEngine]
@[simp] theorem State.withdrawEngine_resetting (s : State) :
    (State.withdrawEngine s).resetting = s.resetting := by simp [State.withdrawEngine]
@[simp] theorem State.withdrawEngine_free (s : State) :
    (State.withdrawEngine s).free = s.free := by simp [State.withdrawEngine]
@[simp] theorem State.withdrawEngine_pending (s : State) :
    (State.withdrawEngine s).pending = s.pending := by simp [State.withdrawEngine]

@[simp] theorem prepareSequence_mem (s : State) (x0 : Sequence) :
    (prepareSequence s x0).mem = s.mem := by
  unfold prepareSequence; (repeat' split) <;> simp
@[simp] theorem prepareSequence_host (s : State) (x0 : Sequence) :
    (prepareSequence s x0).host = s.host := by
  unfold prepareSequence; (repeat' split) <;> simp
@[simp] theorem prepareSequence_decoder (s : State) (x0 : Sequence) :
    (prepareSequence s x0).decoder = s.decoder := by
  unfold prepareSequence; (repeat' split) <;> simp
@[simp] theorem prepareSequence_txn (s : State) (x0 : Sequence) :
    (prepareSequence s x0).txn = s.txn := by
  unfold prepareSequence; (repeat' split) <;> simp
@[simp] theorem prepareSequence_journal (s : State) (x0 : Sequence) :
    (prepareSequence s x0).journal = s.journal := by
  unfold prepareSequence; (repeat' split) <;> simp
@[simp] theorem prepareSequence_tracker (s : State) (x0 : Sequence) :
    (prepareSequence s x0).tracker = s.tracker := by
  unfold prepareSequence; (repeat' split) <;> simp
@[simp] theorem prepareSequence_engine (s : State) (x0 : Sequence) :
    (prepareSequence s x0).engine = s.engine := by
  unfold prepareSequence; (repeat' split) <;> simp
@[simp] theorem prepareSequence_port (s : State) (x0 : Sequence) :
    (prepareSequence s x0).port = s.port := by
  unfold prepareSequence; (repeat' split) <;> simp
@[simp] theorem prepareSequence_command (s : State) (x0 : Sequence) :
    (prepareSequence s x0).command = s.command := by
  unfold prepareSequence; (repeat' split) <;> simp
@[simp] theorem prepareSequence_warning (s : State) (x0 : Sequence) :
    (prepareSequence s x0).warning = s.warning := by
  unfold prepareSequence; (repeat' split) <;> simp
@[simp] theorem prepareSequence_resetting (s : State) (x0 : Sequence) :
    (prepareSequence s x0).resetting = s.resetting := by
  unfold prepareSequence; (repeat' split) <;> simp
@[simp] theorem prepareSequence_free (s : State) (x0 : Sequence) :
    (prepareSequence s x0).free = s.free := by
  unfold prepareSequence; (repeat' split) <;> simp
@[simp] theorem prepareSequence_pending (s : State) (x0 : Sequence) :
    (prepareSequence s x0).pending = s.pending := by
  unfold prepareSequence; (repeat' split) <;> simp

@[simp] theorem beginSequence_mem (s : State) (k : Sequence) :
    (beginSequence s k).mem = s.mem := by simp [beginSequence]
@[simp] theorem beginSequence_host (s : State) (k : Sequence) :
    (beginSequence s k).host = s.host := by simp [beginSequence]
@[simp] theorem beginSequence_decoder (s : State) (k : Sequence) :
    (beginSequence s k).decoder = s.decoder := by simp [beginSequence]
@[simp] theorem beginSequence_txn (s : State) (k : Sequence) :
    (beginSequence s k).txn = s.txn := by simp [beginSequence]
@[simp] theorem beginSequence_journal (s : State) (k : Sequence) :
    (beginSequence s k).journal = s.journal := by simp [beginSequence]
@[simp] theorem beginSequence_tracker (s : State) (k : Sequence) :
    (beginSequence s k).tracker = s.tracker := by simp [beginSequence]
@[simp] theorem beginSequence_engine (s : State) (k : Sequence) :
    (beginSequence s k).engine = s.engine := by simp [beginSequence]
@[simp] theorem beginSequence_command (s : State) (k : Sequence) :
    (beginSequence s k).command = s.command := by simp [beginSequence]
@[simp] theorem beginSequence_warning (s : State) (k : Sequence) :
    (beginSequence s k).warning = s.warning := by simp [beginSequence]
@[simp] theorem beginSequence_resetting (s : State) (k : Sequence) :
    (beginSequence s k).resetting = s.resetting := by simp [beginSequence]
@[simp] theorem beginSequence_free (s : State) (k : Sequence) :
    (beginSequence s k).free = s.free := by simp [beginSequence]
@[simp] theorem beginSequence_pending (s : State) (k : Sequence) :
    (beginSequence s k).pending = s.pending := by simp [beginSequence]

@[simp] theorem requestSequence_mem (s : State) (k : Sequence) :
    (requestSequence s k).mem = s.mem := by
  unfold requestSequence; (repeat' split) <;> simp
@[simp] theorem requestSequence_host (s : State) (k : Sequence) :
    (requestSequence s k).host = s.host := by
  unfold requestSequence; (repeat' split) <;> simp
@[simp] theorem requestSequence_decoder (s : State) (k : Sequence) :
    (requestSequence s k).decoder = s.decoder := by
  unfold requestSequence; (repeat' split) <;> simp
@[simp] theorem requestSequence_txn (s : State) (k : Sequence) :
    (requestSequence s k).txn = s.txn := by
  unfold requestSequence; (repeat' split) <;> simp
@[simp] theorem requestSequence_journal (s : State) (k : Sequence) :
    (requestSequence s k).journal = s.journal := by
  unfold requestSequence; (repeat' split) <;> simp
@[simp] theorem requestSequence_tracker (s : State) (k : Sequence) :
    (requestSequence s k).tracker = s.tracker := by
  unfold requestSequence; (repeat' split) <;> simp
@[simp] theorem requestSequence_engine (s : State) (k : Sequence) :
    (requestSequence s k).engine = s.engine := by
  unfold requestSequence; (repeat' split) <;> simp
@[simp] theorem requestSequence_command (s : State) (k : Sequence) :
    (requestSequence s k).command = s.command := by
  unfold requestSequence; (repeat' split) <;> simp
@[simp] theorem requestSequence_warning (s : State) (k : Sequence) :
    (requestSequence s k).warning = s.warning := by
  unfold requestSequence; (repeat' split) <;> simp
@[simp] theorem requestSequence_resetting (s : State) (k : Sequence) :
    (requestSequence s k).resetting = s.resetting := by
  unfold requestSequence; (repeat' split) <;> simp
@[simp] theorem requestSequence_free (s : State) (k : Sequence) :
    (requestSequence s k).free = s.free := by
  unfold requestSequence; (repeat' split) <;> simp
@[simp] theorem requestSequence_pending (s : State) (k : Sequence) :
    (requestSequence s k).pending = s.pending := by
  unfold requestSequence; (repeat' split) <;> simp

@[simp] theorem endSequence_mem (s : State) : (endSequence s).mem = s.mem := by simp [endSequence]
@[simp] theorem endSequence_host (s : State) :
    (endSequence s).host = s.host := by simp [endSequence]
@[simp] theorem endSequence_decoder (s : State) :
    (endSequence s).decoder = s.decoder := by simp [endSequence]
@[simp] theorem endSequence_txn (s : State) : (endSequence s).txn = s.txn := by simp [endSequence]
@[simp] theorem endSequence_journal (s : State) :
    (endSequence s).journal = s.journal := by simp [endSequence]
@[simp] theorem endSequence_tracker (s : State) :
    (endSequence s).tracker = s.tracker := by simp [endSequence]
@[simp] theorem endSequence_engine (s : State) :
    (endSequence s).engine = s.engine := by simp [endSequence]
@[simp] theorem endSequence_port (s : State) :
    (endSequence s).port = s.port := by simp [endSequence]
@[simp] theorem endSequence_command (s : State) :
    (endSequence s).command = s.command := by simp [endSequence]
@[simp] theorem endSequence_status (s : State) :
    (endSequence s).status = s.status := by simp [endSequence]
@[simp] theorem endSequence_config (s : State) :
    (endSequence s).config = s.config := by simp [endSequence]
@[simp] theorem endSequence_warning (s : State) :
    (endSequence s).warning = s.warning := by simp [endSequence]
@[simp] theorem endSequence_resetting (s : State) :
    (endSequence s).resetting = s.resetting := by simp [endSequence]
@[simp] theorem endSequence_free (s : State) :
    (endSequence s).free = s.free := by simp [endSequence]
@[simp] theorem endSequence_pending (s : State) :
    (endSequence s).pending = s.pending := by simp [endSequence]

@[simp] theorem continueSequence_mem (s : State) :
    (continueSequence s).mem = s.mem := by simp [continueSequence]
@[simp] theorem continueSequence_host (s : State) :
    (continueSequence s).host = s.host := by simp [continueSequence]
@[simp] theorem continueSequence_decoder (s : State) :
    (continueSequence s).decoder = s.decoder := by simp [continueSequence]
@[simp] theorem continueSequence_txn (s : State) :
    (continueSequence s).txn = s.txn := by simp [continueSequence]
@[simp] theorem continueSequence_journal (s : State) :
    (continueSequence s).journal = s.journal := by simp [continueSequence]
@[simp] theorem continueSequence_tracker (s : State) :
    (continueSequence s).tracker = s.tracker := by simp [continueSequence]
@[simp] theorem continueSequence_engine (s : State) :
    (continueSequence s).engine = s.engine := by simp [continueSequence]
@[simp] theorem continueSequence_command (s : State) :
    (continueSequence s).command = s.command := by simp [continueSequence]
@[simp] theorem continueSequence_status (s : State) :
    (continueSequence s).status = s.status := by simp [continueSequence]
@[simp] theorem continueSequence_config (s : State) :
    (continueSequence s).config = s.config := by simp [continueSequence]
@[simp] theorem continueSequence_warning (s : State) :
    (continueSequence s).warning = s.warning := by simp [continueSequence]
@[simp] theorem continueSequence_resetting (s : State) :
    (continueSequence s).resetting = s.resetting := by simp [continueSequence]
@[simp] theorem continueSequence_free (s : State) :
    (continueSequence s).free = s.free := by simp [continueSequence]
@[simp] theorem continueSequence_pending (s : State) :
    (continueSequence s).pending = s.pending := by simp [continueSequence]

@[simp] theorem requestRaiseUpdate_mem (s : State) : (requestRaiseUpdate s).mem = s.mem := by
  unfold requestRaiseUpdate; (repeat' split) <;> simp
@[simp] theorem requestRaiseUpdate_host (s : State) : (requestRaiseUpdate s).host = s.host := by
  unfold requestRaiseUpdate; (repeat' split) <;> simp
@[simp] theorem requestRaiseUpdate_decoder (s : State) :
    (requestRaiseUpdate s).decoder = s.decoder := by
  unfold requestRaiseUpdate; (repeat' split) <;> simp
@[simp] theorem requestRaiseUpdate_txn (s : State) : (requestRaiseUpdate s).txn = s.txn := by
  unfold requestRaiseUpdate; (repeat' split) <;> simp
@[simp] theorem requestRaiseUpdate_journal (s : State) :
    (requestRaiseUpdate s).journal = s.journal := by
  unfold requestRaiseUpdate; (repeat' split) <;> simp
@[simp] theorem requestRaiseUpdate_tracker (s : State) :
    (requestRaiseUpdate s).tracker = s.tracker := by
  unfold requestRaiseUpdate; (repeat' split) <;> simp
@[simp] theorem requestRaiseUpdate_engine (s : State) :
    (requestRaiseUpdate s).engine = s.engine := by
  unfold requestRaiseUpdate; (repeat' split) <;> simp
@[simp] theorem requestRaiseUpdate_command (s : State) :
    (requestRaiseUpdate s).command = s.command := by
  unfold requestRaiseUpdate; (repeat' split) <;> simp
@[simp] theorem requestRaiseUpdate_warning (s : State) :
    (requestRaiseUpdate s).warning = s.warning := by
  unfold requestRaiseUpdate; (repeat' split) <;> simp
@[simp] theorem requestRaiseUpdate_resetting (s : State) :
    (requestRaiseUpdate s).resetting = s.resetting := by
  unfold requestRaiseUpdate; (repeat' split) <;> simp
@[simp] theorem requestRaiseUpdate_free (s : State) : (requestRaiseUpdate s).free = s.free := by
  unfold requestRaiseUpdate; (repeat' split) <;> simp
@[simp] theorem requestRaiseUpdate_pending (s : State) :
    (requestRaiseUpdate s).pending = s.pending := by
  unfold requestRaiseUpdate; (repeat' split) <;> simp

@[simp] theorem updateForRaise_mem (s : State) : (updateForRaise s).mem = s.mem := by
  unfold updateForRaise; (repeat' split) <;> simp
@[simp] theorem updateForRaise_host (s : State) : (updateForRaise s).host = s.host := by
  unfold updateForRaise; (repeat' split) <;> simp
@[simp] theorem updateForRaise_decoder (s : State) : (updateForRaise s).decoder = s.decoder := by
  unfold updateForRaise; (repeat' split) <;> simp
@[simp] theorem updateForRaise_txn (s : State) : (updateForRaise s).txn = s.txn := by
  unfold updateForRaise; (repeat' split) <;> simp
@[simp] theorem updateForRaise_journal (s : State) : (updateForRaise s).journal = s.journal := by
  unfold updateForRaise; (repeat' split) <;> simp
@[simp] theorem updateForRaise_tracker (s : State) : (updateForRaise s).tracker = s.tracker := by
  unfold updateForRaise; (repeat' split) <;> simp
@[simp] theorem updateForRaise_engine (s : State) : (updateForRaise s).engine = s.engine := by
  unfold updateForRaise; (repeat' split) <;> simp
@[simp] theorem updateForRaise_command (s : State) : (updateForRaise s).command = s.command := by
  unfold updateForRaise; (repeat' split) <;> simp
@[simp] theorem updateForRaise_warning (s : State) : (updateForRaise s).warning = s.warning := by
  unfold updateForRaise; (repeat' split) <;> simp
@[simp] theorem updateForRaise_resetting (s : State) :
    (updateForRaise s).resetting = s.resetting := by
  unfold updateForRaise; (repeat' split) <;> simp
@[simp] theorem updateForRaise_free (s : State) : (updateForRaise s).free = s.free := by
  unfold updateForRaise; (repeat' split) <;> simp
@[simp] theorem updateForRaise_pending (s : State) : (updateForRaise s).pending = s.pending := by
  unfold updateForRaise; (repeat' split) <;> simp

@[simp] theorem updateForNegation_mem (s : State) : (updateForNegation s).mem = s.mem := by
  unfold updateForNegation; (repeat' split) <;> simp
@[simp] theorem updateForNegation_host (s : State) : (updateForNegation s).host = s.host := by
  unfold updateForNegation; (repeat' split) <;> simp
@[simp] theorem updateForNegation_decoder (s : State) :
    (updateForNegation s).decoder = s.decoder := by
  unfold updateForNegation; (repeat' split) <;> simp
@[simp] theorem updateForNegation_txn (s : State) : (updateForNegation s).txn = s.txn := by
  unfold updateForNegation; (repeat' split) <;> simp
@[simp] theorem updateForNegation_journal (s : State) :
    (updateForNegation s).journal = s.journal := by
  unfold updateForNegation; (repeat' split) <;> simp
@[simp] theorem updateForNegation_tracker (s : State) :
    (updateForNegation s).tracker = s.tracker := by
  unfold updateForNegation; (repeat' split) <;> simp
@[simp] theorem updateForNegation_engine (s : State) : (updateForNegation s).engine = s.engine := by
  unfold updateForNegation; (repeat' split) <;> simp
@[simp] theorem updateForNegation_command (s : State) :
    (updateForNegation s).command = s.command := by
  unfold updateForNegation; (repeat' split) <;> simp
@[simp] theorem updateForNegation_warning (s : State) :
    (updateForNegation s).warning = s.warning := by
  unfold updateForNegation; (repeat' split) <;> simp
@[simp] theorem updateForNegation_resetting (s : State) :
    (updateForNegation s).resetting = s.resetting := by
  unfold updateForNegation; (repeat' split) <;> simp
@[simp] theorem updateForNegation_free (s : State) : (updateForNegation s).free = s.free := by
  unfold updateForNegation; (repeat' split) <;> simp
@[simp] theorem updateForNegation_pending (s : State) :
    (updateForNegation s).pending = s.pending := by
  unfold updateForNegation; (repeat' split) <;> simp

@[simp] theorem raiseEvent_mem (s : State) (k : EventKind) (d : EventDetail) (arg : Option Nat) :
    (raiseEvent s k d arg).mem = s.mem := by simp [raiseEvent]
@[simp] theorem raiseEvent_host (s : State) (k : EventKind) (d : EventDetail) (arg : Option Nat) :
    (raiseEvent s k d arg).host = s.host := by simp [raiseEvent]
@[simp] theorem raiseEvent_decoder (s : State) (k : EventKind) (d : EventDetail) (arg : Option Nat) :
    (raiseEvent s k d arg).decoder = s.decoder := by simp [raiseEvent]
@[simp] theorem raiseEvent_txn (s : State) (k : EventKind) (d : EventDetail) (arg : Option Nat) :
    (raiseEvent s k d arg).txn = s.txn := by simp [raiseEvent]
@[simp] theorem raiseEvent_journal (s : State) (k : EventKind) (d : EventDetail) (arg : Option Nat) :
    (raiseEvent s k d arg).journal = s.journal := by simp [raiseEvent]
@[simp] theorem raiseEvent_tracker (s : State) (k : EventKind) (d : EventDetail) (arg : Option Nat) :
    (raiseEvent s k d arg).tracker = s.tracker := by simp [raiseEvent]
@[simp] theorem raiseEvent_engine (s : State) (k : EventKind) (d : EventDetail) (arg : Option Nat) :
    (raiseEvent s k d arg).engine = s.engine := by simp [raiseEvent]
@[simp] theorem raiseEvent_command (s : State) (k : EventKind) (d : EventDetail) (arg : Option Nat) :
    (raiseEvent s k d arg).command = s.command := by simp [raiseEvent]
@[simp] theorem raiseEvent_warning (s : State) (k : EventKind) (d : EventDetail) (arg : Option Nat) :
    (raiseEvent s k d arg).warning = s.warning := by simp [raiseEvent]
@[simp] theorem raiseEvent_resetting (s : State) (k : EventKind) (d : EventDetail) (arg : Option Nat) :
    (raiseEvent s k d arg).resetting = s.resetting := by simp [raiseEvent]
@[simp] theorem raiseEvent_free (s : State) (k : EventKind) (d : EventDetail) (arg : Option Nat) :
    (raiseEvent s k d arg).free = s.free := by simp [raiseEvent]
@[simp] theorem raiseEvent_pending (s : State) (k : EventKind) (d : EventDetail) (arg : Option Nat) :
    (raiseEvent s k d arg).pending = s.pending := by simp [raiseEvent]

@[simp] theorem markShort_mem (s : State) : (markShort s).mem = s.mem := by
  unfold markShort; (repeat' split) <;> simp
@[simp] theorem markShort_host (s : State) : (markShort s).host = s.host := by
  unfold markShort; (repeat' split) <;> simp
@[simp] theorem markShort_decoder (s : State) : (markShort s).decoder = s.decoder := by
  unfold markShort; (repeat' split) <;> simp
@[simp] theorem markShort_journal (s : State) : (markShort s).journal = s.journal := by
  unfold markShort; (repeat' split) <;> simp
@[simp] theorem markShort_tracker (s : State) : (markShort s).tracker = s.tracker := by
  unfold markShort; (repeat' split) <;> simp
@[simp] theorem markShort_engine (s : State) : (markShort s).engine = s.engine := by
  unfold markShort; (repeat' split) <;> simp
@[simp] theorem markShort_port (s : State) : (markShort s).port = s.port := by
  unfold markShort; (repeat' split) <;> simp
@[simp] theorem markShort_control (s : State) : (markShort s).control = s.control := by
  unfold markShort; (repeat' split) <;> simp
@[simp] theorem markShort_command (s : State) : (markShort s).command = s.command := by
  unfold markShort; (repeat' split) <;> simp
@[simp] theorem markShort_status (s : State) : (markShort s).status = s.status := by
  unfold markShort; (repeat' split) <;> simp
@[simp] theorem markShort_config (s : State) : (markShort s).config = s.config := by
  unfold markShort; (repeat' split) <;> simp
@[simp] theorem markShort_warning (s : State) : (markShort s).warning = s.warning := by
  unfold markShort; (repeat' split) <;> simp
@[simp] theorem markShort_resetting (s : State) : (markShort s).resetting = s.resetting := by
  unfold markShort; (repeat' split) <;> simp
@[simp] theorem markShort_free (s : State) : (markShort s).free = s.free := by
  unfold markShort; (repeat' split) <;> simp
@[simp] theorem markShort_pending (s : State) : (markShort s).pending = s.pending := by
  unfold markShort; (repeat' split) <;> simp

@[simp] theorem releaseStagedRead_mem (s : State) : (releaseStagedRead s).mem = s.mem := by
  unfold releaseStagedRead; (repeat' split) <;> simp
@[simp] theorem releaseStagedRead_host (s : State) : (releaseStagedRead s).host = s.host := by
  unfold releaseStagedRead; (repeat' split) <;> simp
@[simp] theorem releaseStagedRead_decoder (s : State) :
    (releaseStagedRead s).decoder = s.decoder := by
  unfold releaseStagedRead; (repeat' split) <;> simp
@[simp] theorem releaseStagedRead_txn (s : State) : (releaseStagedRead s).txn = s.txn := by
  unfold releaseStagedRead; (repeat' split) <;> simp
@[simp] theorem releaseStagedRead_journal (s : State) :
    (releaseStagedRead s).journal = s.journal := by
  unfold releaseStagedRead; (repeat' split) <;> simp
@[simp] theorem releaseStagedRead_tracker (s : State) :
    (releaseStagedRead s).tracker = s.tracker := by
  unfold releaseStagedRead; (repeat' split) <;> simp
@[simp] theorem releaseStagedRead_engine (s : State) : (releaseStagedRead s).engine = s.engine := by
  unfold releaseStagedRead; (repeat' split) <;> simp
@[simp] theorem releaseStagedRead_command (s : State) :
    (releaseStagedRead s).command = s.command := by
  unfold releaseStagedRead; (repeat' split) <;> simp
@[simp] theorem releaseStagedRead_warning (s : State) :
    (releaseStagedRead s).warning = s.warning := by
  unfold releaseStagedRead; (repeat' split) <;> simp
@[simp] theorem releaseStagedRead_resetting (s : State) :
    (releaseStagedRead s).resetting = s.resetting := by
  unfold releaseStagedRead; (repeat' split) <;> simp
@[simp] theorem releaseStagedRead_free (s : State) : (releaseStagedRead s).free = s.free := by
  unfold releaseStagedRead; (repeat' split) <;> simp
@[simp] theorem releaseStagedRead_pending (s : State) :
    (releaseStagedRead s).pending = s.pending := by
  unfold releaseStagedRead; (repeat' split) <;> simp

@[simp] theorem endNormally_mem (s : State) (rd : Byte) : (endNormally s rd).mem = s.mem := by
  unfold endNormally; (repeat' split) <;> simp
@[simp] theorem endNormally_decoder (s : State) (rd : Byte) :
    (endNormally s rd).decoder = s.decoder := by
  unfold endNormally; (repeat' split) <;> simp
@[simp] theorem endNormally_txn (s : State) (rd : Byte) : (endNormally s rd).txn = s.txn := by
  unfold endNormally; (repeat' split) <;> simp
@[simp] theorem endNormally_journal (s : State) (rd : Byte) :
    (endNormally s rd).journal = s.journal := by
  unfold endNormally; (repeat' split) <;> simp
@[simp] theorem endNormally_tracker (s : State) (rd : Byte) :
    (endNormally s rd).tracker = s.tracker := by
  unfold endNormally; (repeat' split) <;> simp
@[simp] theorem endNormally_engine (s : State) (rd : Byte) :
    (endNormally s rd).engine = s.engine := by
  unfold endNormally; (repeat' split) <;> simp
@[simp] theorem endNormally_command (s : State) (rd : Byte) :
    (endNormally s rd).command = s.command := by
  unfold endNormally; (repeat' split) <;> simp
@[simp] theorem endNormally_warning (s : State) (rd : Byte) :
    (endNormally s rd).warning = s.warning := by
  unfold endNormally; (repeat' split) <;> simp
@[simp] theorem endNormally_resetting (s : State) (rd : Byte) :
    (endNormally s rd).resetting = s.resetting := by
  unfold endNormally; (repeat' split) <;> simp
@[simp] theorem endNormally_free (s : State) (rd : Byte) : (endNormally s rd).free = s.free := by
  unfold endNormally; (repeat' split) <;> simp
@[simp] theorem endNormally_pending (s : State) (rd : Byte) :
    (endNormally s rd).pending = s.pending := by
  unfold endNormally; (repeat' split) <;> simp

@[simp] theorem endWithFault_mem (s : State) : (endWithFault s).mem = s.mem := by
  unfold endWithFault; (repeat' split) <;> simp
@[simp] theorem endWithFault_decoder (s : State) : (endWithFault s).decoder = s.decoder := by
  unfold endWithFault; (repeat' split) <;> simp
@[simp] theorem endWithFault_txn (s : State) : (endWithFault s).txn = s.txn := by
  unfold endWithFault; (repeat' split) <;> simp
@[simp] theorem endWithFault_journal (s : State) : (endWithFault s).journal = s.journal := by
  unfold endWithFault; (repeat' split) <;> simp
@[simp] theorem endWithFault_tracker (s : State) : (endWithFault s).tracker = s.tracker := by
  unfold endWithFault; (repeat' split) <;> simp
@[simp] theorem endWithFault_engine (s : State) : (endWithFault s).engine = s.engine := by
  unfold endWithFault; (repeat' split) <;> simp
@[simp] theorem endWithFault_command (s : State) : (endWithFault s).command = s.command := by
  unfold endWithFault; (repeat' split) <;> simp
@[simp] theorem endWithFault_warning (s : State) : (endWithFault s).warning = s.warning := by
  unfold endWithFault; (repeat' split) <;> simp
@[simp] theorem endWithFault_resetting (s : State) : (endWithFault s).resetting = s.resetting := by
  unfold endWithFault; (repeat' split) <;> simp
@[simp] theorem endWithFault_pending (s : State) : (endWithFault s).pending = s.pending := by
  unfold endWithFault; (repeat' split) <;> simp

@[simp] theorem faultInStartup_mem (s : State) :
    (faultInStartup s).mem = s.mem := by simp [faultInStartup]
@[simp] theorem faultInStartup_decoder (s : State) :
    (faultInStartup s).decoder = s.decoder := by simp [faultInStartup]
@[simp] theorem faultInStartup_txn (s : State) :
    (faultInStartup s).txn = s.txn := by simp [faultInStartup]
@[simp] theorem faultInStartup_journal (s : State) :
    (faultInStartup s).journal = s.journal := by simp [faultInStartup]
@[simp] theorem faultInStartup_tracker (s : State) :
    (faultInStartup s).tracker = s.tracker := by simp [faultInStartup]
@[simp] theorem faultInStartup_engine (s : State) :
    (faultInStartup s).engine = s.engine := by simp [faultInStartup]
@[simp] theorem faultInStartup_command (s : State) :
    (faultInStartup s).command = s.command := by simp [faultInStartup]
@[simp] theorem faultInStartup_warning (s : State) :
    (faultInStartup s).warning = s.warning := by simp [faultInStartup]
@[simp] theorem faultInStartup_resetting (s : State) :
    (faultInStartup s).resetting = s.resetting := by simp [faultInStartup]
@[simp] theorem faultInStartup_pending (s : State) :
    (faultInStartup s).pending = s.pending := by simp [faultInStartup]

@[simp] theorem raiseRefusal_mem (s : State) (r : WriteReason) (a : Addr) :
    (raiseRefusal s r a).mem = s.mem := by
  unfold raiseRefusal; (repeat' split) <;> simp
@[simp] theorem raiseRefusal_host (s : State) (r : WriteReason) (a : Addr) :
    (raiseRefusal s r a).host = s.host := by
  unfold raiseRefusal; (repeat' split) <;> simp
@[simp] theorem raiseRefusal_decoder (s : State) (r : WriteReason) (a : Addr) :
    (raiseRefusal s r a).decoder = s.decoder := by
  unfold raiseRefusal; (repeat' split) <;> simp
@[simp] theorem raiseRefusal_txn (s : State) (r : WriteReason) (a : Addr) :
    (raiseRefusal s r a).txn = s.txn := by
  unfold raiseRefusal; (repeat' split) <;> simp
@[simp] theorem raiseRefusal_journal (s : State) (r : WriteReason) (a : Addr) :
    (raiseRefusal s r a).journal = s.journal := by
  unfold raiseRefusal; (repeat' split) <;> simp
@[simp] theorem raiseRefusal_tracker (s : State) (r : WriteReason) (a : Addr) :
    (raiseRefusal s r a).tracker = s.tracker := by
  unfold raiseRefusal; (repeat' split) <;> simp
@[simp] theorem raiseRefusal_engine (s : State) (r : WriteReason) (a : Addr) :
    (raiseRefusal s r a).engine = s.engine := by
  unfold raiseRefusal; (repeat' split) <;> simp
@[simp] theorem raiseRefusal_command (s : State) (r : WriteReason) (a : Addr) :
    (raiseRefusal s r a).command = s.command := by
  unfold raiseRefusal; (repeat' split) <;> simp
@[simp] theorem raiseRefusal_warning (s : State) (r : WriteReason) (a : Addr) :
    (raiseRefusal s r a).warning = s.warning := by
  unfold raiseRefusal; (repeat' split) <;> simp
@[simp] theorem raiseRefusal_resetting (s : State) (r : WriteReason) (a : Addr) :
    (raiseRefusal s r a).resetting = s.resetting := by
  unfold raiseRefusal; (repeat' split) <;> simp
@[simp] theorem raiseRefusal_free (s : State) (r : WriteReason) (a : Addr) :
    (raiseRefusal s r a).free = s.free := by
  unfold raiseRefusal; (repeat' split) <;> simp
@[simp] theorem raiseRefusal_pending (s : State) (r : WriteReason) (a : Addr) :
    (raiseRefusal s r a).pending = s.pending := by
  unfold raiseRefusal; (repeat' split) <;> simp

@[simp] theorem refuseWrite_mem (s : State) (r : WriteReason) : (refuseWrite s r).mem = s.mem := by
  unfold refuseWrite; (repeat' split) <;> simp
@[simp] theorem refuseWrite_decoder (s : State) (r : WriteReason) :
    (refuseWrite s r).decoder = s.decoder := by
  unfold refuseWrite; (repeat' split) <;> simp
@[simp] theorem refuseWrite_journal (s : State) (r : WriteReason) :
    (refuseWrite s r).journal = s.journal := by
  unfold refuseWrite; (repeat' split) <;> simp
@[simp] theorem refuseWrite_tracker (s : State) (r : WriteReason) :
    (refuseWrite s r).tracker = s.tracker := by
  unfold refuseWrite; (repeat' split) <;> simp
@[simp] theorem refuseWrite_engine (s : State) (r : WriteReason) :
    (refuseWrite s r).engine = s.engine := by
  unfold refuseWrite; (repeat' split) <;> simp
@[simp] theorem refuseWrite_command (s : State) (r : WriteReason) :
    (refuseWrite s r).command = s.command := by
  unfold refuseWrite; (repeat' split) <;> simp
@[simp] theorem refuseWrite_warning (s : State) (r : WriteReason) :
    (refuseWrite s r).warning = s.warning := by
  unfold refuseWrite; (repeat' split) <;> simp
@[simp] theorem refuseWrite_resetting (s : State) (r : WriteReason) :
    (refuseWrite s r).resetting = s.resetting := by
  unfold refuseWrite; (repeat' split) <;> simp
@[simp] theorem refuseWrite_pending (s : State) (r : WriteReason) :
    (refuseWrite s r).pending = s.pending := by
  unfold refuseWrite; (repeat' split) <;> simp

@[simp] theorem expireCycle_mem (s : State) : (expireCycle s).mem = s.mem := by
  unfold expireCycle; (repeat' split) <;> simp
@[simp] theorem expireCycle_decoder (s : State) : (expireCycle s).decoder = s.decoder := by
  unfold expireCycle; (repeat' split) <;> simp
@[simp] theorem expireCycle_journal (s : State) : (expireCycle s).journal = s.journal := by
  unfold expireCycle; (repeat' split) <;> simp
@[simp] theorem expireCycle_tracker (s : State) : (expireCycle s).tracker = s.tracker := by
  unfold expireCycle; (repeat' split) <;> simp
@[simp] theorem expireCycle_engine (s : State) : (expireCycle s).engine = s.engine := by
  unfold expireCycle; (repeat' split) <;> simp
@[simp] theorem expireCycle_command (s : State) : (expireCycle s).command = s.command := by
  unfold expireCycle; (repeat' split) <;> simp
@[simp] theorem expireCycle_warning (s : State) : (expireCycle s).warning = s.warning := by
  unfold expireCycle; (repeat' split) <;> simp
@[simp] theorem expireCycle_resetting (s : State) : (expireCycle s).resetting = s.resetting := by
  unfold expireCycle; (repeat' split) <;> simp
@[simp] theorem expireCycle_pending (s : State) : (expireCycle s).pending = s.pending := by
  unfold expireCycle; (repeat' split) <;> simp

@[simp] theorem claimPass_mem (s : State) : (claimPass s).mem = s.mem := by
  unfold claimPass; (repeat' split) <;> simp
@[simp] theorem claimPass_decoder (s : State) : (claimPass s).decoder = s.decoder := by
  unfold claimPass; (repeat' split) <;> simp
@[simp] theorem claimPass_txn (s : State) : (claimPass s).txn = s.txn := by
  unfold claimPass; (repeat' split) <;> simp
@[simp] theorem claimPass_journal (s : State) : (claimPass s).journal = s.journal := by
  unfold claimPass; (repeat' split) <;> simp
@[simp] theorem claimPass_tracker (s : State) : (claimPass s).tracker = s.tracker := by
  unfold claimPass; (repeat' split) <;> simp
@[simp] theorem claimPass_engine (s : State) : (claimPass s).engine = s.engine := by
  unfold claimPass; (repeat' split) <;> simp
@[simp] theorem claimPass_control (s : State) : (claimPass s).control = s.control := by
  unfold claimPass; (repeat' split) <;> simp
@[simp] theorem claimPass_command (s : State) : (claimPass s).command = s.command := by
  unfold claimPass; (repeat' split) <;> simp
@[simp] theorem claimPass_status (s : State) : (claimPass s).status = s.status := by
  unfold claimPass; (repeat' split) <;> simp
@[simp] theorem claimPass_config (s : State) : (claimPass s).config = s.config := by
  unfold claimPass; (repeat' split) <;> simp
@[simp] theorem claimPass_warning (s : State) : (claimPass s).warning = s.warning := by
  unfold claimPass; (repeat' split) <;> simp
@[simp] theorem claimPass_resetting (s : State) : (claimPass s).resetting = s.resetting := by
  unfold claimPass; (repeat' split) <;> simp
@[simp] theorem claimPass_free (s : State) : (claimPass s).free = s.free := by
  unfold claimPass; (repeat' split) <;> simp
@[simp] theorem claimPass_pending (s : State) : (claimPass s).pending = s.pending := by
  unfold claimPass; (repeat' split) <;> simp

@[simp] theorem offerInsert_mem (s : State) (g : Nat) (d : Nat) (p : Nat) :
    (offerInsert s g d p).mem = s.mem := by
  unfold offerInsert; (repeat' split) <;> simp
@[simp] theorem offerInsert_host (s : State) (g : Nat) (d : Nat) (p : Nat) :
    (offerInsert s g d p).host = s.host := by
  unfold offerInsert; (repeat' split) <;> simp
@[simp] theorem offerInsert_decoder (s : State) (g : Nat) (d : Nat) (p : Nat) :
    (offerInsert s g d p).decoder = s.decoder := by
  unfold offerInsert; (repeat' split) <;> simp
@[simp] theorem offerInsert_journal (s : State) (g : Nat) (d : Nat) (p : Nat) :
    (offerInsert s g d p).journal = s.journal := by
  unfold offerInsert; (repeat' split) <;> simp
@[simp] theorem offerInsert_engine (s : State) (g : Nat) (d : Nat) (p : Nat) :
    (offerInsert s g d p).engine = s.engine := by
  unfold offerInsert; (repeat' split) <;> simp
@[simp] theorem offerInsert_command (s : State) (g : Nat) (d : Nat) (p : Nat) :
    (offerInsert s g d p).command = s.command := by
  unfold offerInsert; (repeat' split) <;> simp
@[simp] theorem offerInsert_warning (s : State) (g : Nat) (d : Nat) (p : Nat) :
    (offerInsert s g d p).warning = s.warning := by
  unfold offerInsert; (repeat' split) <;> simp
@[simp] theorem offerInsert_resetting (s : State) (g : Nat) (d : Nat) (p : Nat) :
    (offerInsert s g d p).resetting = s.resetting := by
  unfold offerInsert; (repeat' split) <;> simp
@[simp] theorem offerInsert_free (s : State) (g : Nat) (d : Nat) (p : Nat) :
    (offerInsert s g d p).free = s.free := by
  unfold offerInsert; (repeat' split) <;> simp
@[simp] theorem offerInsert_pending (s : State) (g : Nat) (d : Nat) (p : Nat) :
    (offerInsert s g d p).pending = s.pending := by
  unfold offerInsert; (repeat' split) <;> simp

@[simp] theorem endExecution_mem (s : State) (r : Result) (d : ResultDetail) :
    (endExecution s r d).mem = s.mem := by
  unfold endExecution; (repeat' split) <;> simp
@[simp] theorem endExecution_host (s : State) (r : Result) (d : ResultDetail) :
    (endExecution s r d).host = s.host := by
  unfold endExecution; (repeat' split) <;> simp
@[simp] theorem endExecution_decoder (s : State) (r : Result) (d : ResultDetail) :
    (endExecution s r d).decoder = s.decoder := by
  unfold endExecution; (repeat' split) <;> simp
@[simp] theorem endExecution_journal (s : State) (r : Result) (d : ResultDetail) :
    (endExecution s r d).journal = s.journal := by
  unfold endExecution; (repeat' split) <;> simp
@[simp] theorem endExecution_tracker (s : State) (r : Result) (d : ResultDetail) :
    (endExecution s r d).tracker = s.tracker := by
  unfold endExecution; (repeat' split) <;> simp
@[simp] theorem endExecution_engine (s : State) (r : Result) (d : ResultDetail) :
    (endExecution s r d).engine = s.engine := by
  unfold endExecution; (repeat' split) <;> simp
@[simp] theorem endExecution_command (s : State) (r : Result) (d : ResultDetail) :
    (endExecution s r d).command = s.command := by
  unfold endExecution; (repeat' split) <;> simp
@[simp] theorem endExecution_warning (s : State) (r : Result) (d : ResultDetail) :
    (endExecution s r d).warning = s.warning := by
  unfold endExecution; (repeat' split) <;> simp
@[simp] theorem endExecution_resetting (s : State) (r : Result) (d : ResultDetail) :
    (endExecution s r d).resetting = s.resetting := by
  unfold endExecution; (repeat' split) <;> simp
@[simp] theorem endExecution_free (s : State) (r : Result) (d : ResultDetail) :
    (endExecution s r d).free = s.free := by
  unfold endExecution; (repeat' split) <;> simp
@[simp] theorem endExecution_pending (s : State) (r : Result) (d : ResultDetail) :
    (endExecution s r d).pending = s.pending := by
  unfold endExecution; (repeat' split) <;> simp

end Sys2Proof.Machine
end

