-- ==== Sys2Proof/Laws/HostPortFrames.lean ====
section
/-! SUPPORT. What each operation of the host port leaves unchanged, block by block. -/

-- One declaration at a time: the package as one text then needs few threads.
set_option Elab.async false

namespace Sys2Proof.Machine

@[simp] theorem startAppend_mem (s : State) : (startAppend s).mem = s.mem := by
  unfold startAppend; (repeat' split) <;> simp
@[simp] theorem startAppend_decoder (s : State) : (startAppend s).decoder = s.decoder := by
  unfold startAppend; (repeat' split) <;> simp
@[simp] theorem startAppend_txn (s : State) : (startAppend s).txn = s.txn := by
  unfold startAppend; (repeat' split) <;> simp
@[simp] theorem startAppend_tracker (s : State) : (startAppend s).tracker = s.tracker := by
  unfold startAppend; (repeat' split) <;> simp
@[simp] theorem startAppend_engine (s : State) : (startAppend s).engine = s.engine := by
  unfold startAppend; (repeat' split) <;> simp
@[simp] theorem startAppend_control (s : State) : (startAppend s).control = s.control := by
  unfold startAppend; (repeat' split) <;> simp
@[simp] theorem startAppend_command (s : State) : (startAppend s).command = s.command := by
  unfold startAppend; (repeat' split) <;> simp
@[simp] theorem startAppend_status (s : State) : (startAppend s).status = s.status := by
  unfold startAppend; (repeat' split) <;> simp
@[simp] theorem startAppend_config (s : State) : (startAppend s).config = s.config := by
  unfold startAppend; (repeat' split) <;> simp
@[simp] theorem startAppend_warning (s : State) : (startAppend s).warning = s.warning := by
  unfold startAppend; (repeat' split) <;> simp
@[simp] theorem startAppend_resetting (s : State) : (startAppend s).resetting = s.resetting := by
  unfold startAppend; (repeat' split) <;> simp
@[simp] theorem startAppend_free (s : State) : (startAppend s).free = s.free := by
  unfold startAppend; (repeat' split) <;> simp
@[simp] theorem startAppend_pending (s : State) : (startAppend s).pending = s.pending := by
  unfold startAppend; (repeat' split) <;> simp

@[simp] theorem holdCycle_mem (s : State) (cause : HoldCause) :
    (holdCycle s cause).mem = s.mem := by
  unfold holdCycle; (repeat' split) <;> simp
@[simp] theorem holdCycle_decoder (s : State) (cause : HoldCause) :
    (holdCycle s cause).decoder = s.decoder := by
  unfold holdCycle; (repeat' split) <;> simp
@[simp] theorem holdCycle_txn (s : State) (cause : HoldCause) :
    (holdCycle s cause).txn = s.txn := by
  unfold holdCycle; (repeat' split) <;> simp
@[simp] theorem holdCycle_journal (s : State) (cause : HoldCause) :
    (holdCycle s cause).journal = s.journal := by
  unfold holdCycle; (repeat' split) <;> simp
@[simp] theorem holdCycle_tracker (s : State) (cause : HoldCause) :
    (holdCycle s cause).tracker = s.tracker := by
  unfold holdCycle; (repeat' split) <;> simp
@[simp] theorem holdCycle_engine (s : State) (cause : HoldCause) :
    (holdCycle s cause).engine = s.engine := by
  unfold holdCycle; (repeat' split) <;> simp
@[simp] theorem holdCycle_port (s : State) (cause : HoldCause) :
    (holdCycle s cause).port = s.port := by
  unfold holdCycle; (repeat' split) <;> simp
@[simp] theorem holdCycle_control (s : State) (cause : HoldCause) :
    (holdCycle s cause).control = s.control := by
  unfold holdCycle; (repeat' split) <;> simp
@[simp] theorem holdCycle_command (s : State) (cause : HoldCause) :
    (holdCycle s cause).command = s.command := by
  unfold holdCycle; (repeat' split) <;> simp
@[simp] theorem holdCycle_status (s : State) (cause : HoldCause) :
    (holdCycle s cause).status = s.status := by
  unfold holdCycle; (repeat' split) <;> simp
@[simp] theorem holdCycle_config (s : State) (cause : HoldCause) :
    (holdCycle s cause).config = s.config := by
  unfold holdCycle; (repeat' split) <;> simp
@[simp] theorem holdCycle_warning (s : State) (cause : HoldCause) :
    (holdCycle s cause).warning = s.warning := by
  unfold holdCycle; (repeat' split) <;> simp
@[simp] theorem holdCycle_resetting (s : State) (cause : HoldCause) :
    (holdCycle s cause).resetting = s.resetting := by
  unfold holdCycle; (repeat' split) <;> simp
@[simp] theorem holdCycle_free (s : State) (cause : HoldCause) :
    (holdCycle s cause).free = s.free := by
  unfold holdCycle; (repeat' split) <;> simp
@[simp] theorem holdCycle_pending (s : State) (cause : HoldCause) :
    (holdCycle s cause).pending = s.pending := by
  unfold holdCycle; (repeat' split) <;> simp

@[simp] theorem applyJudgement_mem (s : State) (x0 : Judgement) :
    (applyJudgement s x0).mem = s.mem := by
  unfold applyJudgement; (repeat' split) <;> simp
@[simp] theorem applyJudgement_decoder (s : State) (x0 : Judgement) :
    (applyJudgement s x0).decoder = s.decoder := by
  unfold applyJudgement; (repeat' split) <;> simp
@[simp] theorem applyJudgement_tracker (s : State) (x0 : Judgement) :
    (applyJudgement s x0).tracker = s.tracker := by
  unfold applyJudgement; (repeat' split) <;> simp
@[simp] theorem applyJudgement_engine (s : State) (x0 : Judgement) :
    (applyJudgement s x0).engine = s.engine := by
  unfold applyJudgement; (repeat' split) <;> simp
@[simp] theorem applyJudgement_command (s : State) (x0 : Judgement) :
    (applyJudgement s x0).command = s.command := by
  unfold applyJudgement; (repeat' split) <;> simp
@[simp] theorem applyJudgement_warning (s : State) (x0 : Judgement) :
    (applyJudgement s x0).warning = s.warning := by
  unfold applyJudgement; (repeat' split) <;> simp
@[simp] theorem applyJudgement_resetting (s : State) (x0 : Judgement) :
    (applyJudgement s x0).resetting = s.resetting := by
  unfold applyJudgement; (repeat' split) <;> simp
@[simp] theorem applyJudgement_pending (s : State) (x0 : Judgement) :
    (applyJudgement s x0).pending = s.pending := by
  unfold applyJudgement; (repeat' split) <;> simp

@[simp] theorem takeCycle_mem (s : State) (addr : Addr) (isWrite : Bool) (data : Byte) :
    (takeCycle s addr isWrite data).mem = s.mem := by simp [takeCycle]
@[simp] theorem takeCycle_decoder (s : State) (addr : Addr) (isWrite : Bool) (data : Byte) :
    (takeCycle s addr isWrite data).decoder = s.decoder := by simp [takeCycle]
@[simp] theorem takeCycle_tracker (s : State) (addr : Addr) (isWrite : Bool) (data : Byte) :
    (takeCycle s addr isWrite data).tracker = s.tracker := by simp [takeCycle]
@[simp] theorem takeCycle_engine (s : State) (addr : Addr) (isWrite : Bool) (data : Byte) :
    (takeCycle s addr isWrite data).engine = s.engine := by simp [takeCycle]
@[simp] theorem takeCycle_command (s : State) (addr : Addr) (isWrite : Bool) (data : Byte) :
    (takeCycle s addr isWrite data).command = s.command := by simp [takeCycle]
@[simp] theorem takeCycle_warning (s : State) (addr : Addr) (isWrite : Bool) (data : Byte) :
    (takeCycle s addr isWrite data).warning = s.warning := by simp [takeCycle]
@[simp] theorem takeCycle_resetting (s : State) (addr : Addr) (isWrite : Bool) (data : Byte) :
    (takeCycle s addr isWrite data).resetting = s.resetting := by simp [takeCycle]
@[simp] theorem takeCycle_pending (s : State) (addr : Addr) (isWrite : Bool) (data : Byte) :
    (takeCycle s addr isWrite data).pending = s.pending := by simp [takeCycle]

@[simp] theorem rejudge_mem (s : State) (c : HostCycle) :
    (rejudge s c).mem = s.mem := by simp [rejudge]
@[simp] theorem rejudge_decoder (s : State) (c : HostCycle) :
    (rejudge s c).decoder = s.decoder := by simp [rejudge]
@[simp] theorem rejudge_tracker (s : State) (c : HostCycle) :
    (rejudge s c).tracker = s.tracker := by simp [rejudge]
@[simp] theorem rejudge_engine (s : State) (c : HostCycle) :
    (rejudge s c).engine = s.engine := by simp [rejudge]
@[simp] theorem rejudge_command (s : State) (c : HostCycle) :
    (rejudge s c).command = s.command := by simp [rejudge]
@[simp] theorem rejudge_warning (s : State) (c : HostCycle) :
    (rejudge s c).warning = s.warning := by simp [rejudge]
@[simp] theorem rejudge_resetting (s : State) (c : HostCycle) :
    (rejudge s c).resetting = s.resetting := by simp [rejudge]
@[simp] theorem rejudge_pending (s : State) (c : HostCycle) :
    (rejudge s c).pending = s.pending := by simp [rejudge]

@[simp] theorem releaseHeld_mem (s : State) : (releaseHeld s).mem = s.mem := by
  unfold releaseHeld; (repeat' split) <;> simp
@[simp] theorem releaseHeld_decoder (s : State) : (releaseHeld s).decoder = s.decoder := by
  unfold releaseHeld; (repeat' split) <;> simp
@[simp] theorem releaseHeld_tracker (s : State) : (releaseHeld s).tracker = s.tracker := by
  unfold releaseHeld; (repeat' split) <;> simp
@[simp] theorem releaseHeld_engine (s : State) : (releaseHeld s).engine = s.engine := by
  unfold releaseHeld; (repeat' split) <;> simp
@[simp] theorem releaseHeld_command (s : State) : (releaseHeld s).command = s.command := by
  unfold releaseHeld; (repeat' split) <;> simp
@[simp] theorem releaseHeld_warning (s : State) : (releaseHeld s).warning = s.warning := by
  unfold releaseHeld; (repeat' split) <;> simp
@[simp] theorem releaseHeld_resetting (s : State) : (releaseHeld s).resetting = s.resetting := by
  unfold releaseHeld; (repeat' split) <;> simp
@[simp] theorem releaseHeld_pending (s : State) : (releaseHeld s).pending = s.pending := by
  unfold releaseHeld; (repeat' split) <;> simp

@[simp] theorem releaseGranule_mem (s : State) : (releaseGranule s).mem = s.mem := by
  unfold releaseGranule; (repeat' split) <;> simp
@[simp] theorem releaseGranule_decoder (s : State) : (releaseGranule s).decoder = s.decoder := by
  unfold releaseGranule; (repeat' split) <;> simp
@[simp] theorem releaseGranule_txn (s : State) : (releaseGranule s).txn = s.txn := by
  unfold releaseGranule; (repeat' split) <;> simp
@[simp] theorem releaseGranule_journal (s : State) : (releaseGranule s).journal = s.journal := by
  unfold releaseGranule; (repeat' split) <;> simp
@[simp] theorem releaseGranule_tracker (s : State) : (releaseGranule s).tracker = s.tracker := by
  unfold releaseGranule; (repeat' split) <;> simp
@[simp] theorem releaseGranule_engine (s : State) : (releaseGranule s).engine = s.engine := by
  unfold releaseGranule; (repeat' split) <;> simp
@[simp] theorem releaseGranule_control (s : State) : (releaseGranule s).control = s.control := by
  unfold releaseGranule; (repeat' split) <;> simp
@[simp] theorem releaseGranule_command (s : State) : (releaseGranule s).command = s.command := by
  unfold releaseGranule; (repeat' split) <;> simp
@[simp] theorem releaseGranule_status (s : State) : (releaseGranule s).status = s.status := by
  unfold releaseGranule; (repeat' split) <;> simp
@[simp] theorem releaseGranule_config (s : State) : (releaseGranule s).config = s.config := by
  unfold releaseGranule; (repeat' split) <;> simp
@[simp] theorem releaseGranule_warning (s : State) : (releaseGranule s).warning = s.warning := by
  unfold releaseGranule; (repeat' split) <;> simp
@[simp] theorem releaseGranule_resetting (s : State) :
    (releaseGranule s).resetting = s.resetting := by
  unfold releaseGranule; (repeat' split) <;> simp
@[simp] theorem releaseGranule_free (s : State) : (releaseGranule s).free = s.free := by
  unfold releaseGranule; (repeat' split) <;> simp
@[simp] theorem releaseGranule_pending (s : State) : (releaseGranule s).pending = s.pending := by
  unfold releaseGranule; (repeat' split) <;> simp

@[simp] theorem appendCompletes_mem (s : State) (a : Append) :
    (appendCompletes s a).mem = s.mem := by simp [appendCompletes]
@[simp] theorem appendCompletes_decoder (s : State) (a : Append) :
    (appendCompletes s a).decoder = s.decoder := by simp [appendCompletes]
@[simp] theorem appendCompletes_engine (s : State) (a : Append) :
    (appendCompletes s a).engine = s.engine := by simp [appendCompletes]
@[simp] theorem appendCompletes_command (s : State) (a : Append) :
    (appendCompletes s a).command = s.command := by simp [appendCompletes]
@[simp] theorem appendCompletes_warning (s : State) (a : Append) :
    (appendCompletes s a).warning = s.warning := by simp [appendCompletes]
@[simp] theorem appendCompletes_resetting (s : State) (a : Append) :
    (appendCompletes s a).resetting = s.resetting := by simp [appendCompletes]
@[simp] theorem appendCompletes_free (s : State) (a : Append) :
    (appendCompletes s a).free = s.free := by simp [appendCompletes]
@[simp] theorem appendCompletes_pending (s : State) (a : Append) :
    (appendCompletes s a).pending = s.pending := by simp [appendCompletes]

@[simp] theorem abandonAppend_mem (s : State) (cause : AbandonCause) :
    (abandonAppend s cause).mem = s.mem := by
  unfold abandonAppend; (repeat' split) <;> simp
@[simp] theorem abandonAppend_decoder (s : State) (cause : AbandonCause) :
    (abandonAppend s cause).decoder = s.decoder := by
  unfold abandonAppend; (repeat' split) <;> simp
@[simp] theorem abandonAppend_tracker (s : State) (cause : AbandonCause) :
    (abandonAppend s cause).tracker = s.tracker := by
  unfold abandonAppend; (repeat' split) <;> simp
@[simp] theorem abandonAppend_engine (s : State) (cause : AbandonCause) :
    (abandonAppend s cause).engine = s.engine := by
  unfold abandonAppend; (repeat' split) <;> simp
@[simp] theorem abandonAppend_command (s : State) (cause : AbandonCause) :
    (abandonAppend s cause).command = s.command := by
  unfold abandonAppend; (repeat' split) <;> simp
@[simp] theorem abandonAppend_warning (s : State) (cause : AbandonCause) :
    (abandonAppend s cause).warning = s.warning := by
  unfold abandonAppend; (repeat' split) <;> simp
@[simp] theorem abandonAppend_resetting (s : State) (cause : AbandonCause) :
    (abandonAppend s cause).resetting = s.resetting := by
  unfold abandonAppend; (repeat' split) <;> simp
@[simp] theorem abandonAppend_pending (s : State) (cause : AbandonCause) :
    (abandonAppend s cause).pending = s.pending := by
  unfold abandonAppend; (repeat' split) <;> simp

@[simp] theorem markAbandon_mem (s : State) (a : Append) (cause : AbandonCause) :
    (markAbandon s a cause).mem = s.mem := by simp [markAbandon]
@[simp] theorem markAbandon_host (s : State) (a : Append) (cause : AbandonCause) :
    (markAbandon s a cause).host = s.host := by simp [markAbandon]
@[simp] theorem markAbandon_decoder (s : State) (a : Append) (cause : AbandonCause) :
    (markAbandon s a cause).decoder = s.decoder := by simp [markAbandon]
@[simp] theorem markAbandon_txn (s : State) (a : Append) (cause : AbandonCause) :
    (markAbandon s a cause).txn = s.txn := by simp [markAbandon]
@[simp] theorem markAbandon_tracker (s : State) (a : Append) (cause : AbandonCause) :
    (markAbandon s a cause).tracker = s.tracker := by simp [markAbandon]
@[simp] theorem markAbandon_engine (s : State) (a : Append) (cause : AbandonCause) :
    (markAbandon s a cause).engine = s.engine := by simp [markAbandon]
@[simp] theorem markAbandon_port (s : State) (a : Append) (cause : AbandonCause) :
    (markAbandon s a cause).port = s.port := by simp [markAbandon]
@[simp] theorem markAbandon_control (s : State) (a : Append) (cause : AbandonCause) :
    (markAbandon s a cause).control = s.control := by simp [markAbandon]
@[simp] theorem markAbandon_command (s : State) (a : Append) (cause : AbandonCause) :
    (markAbandon s a cause).command = s.command := by simp [markAbandon]
@[simp] theorem markAbandon_status (s : State) (a : Append) (cause : AbandonCause) :
    (markAbandon s a cause).status = s.status := by simp [markAbandon]
@[simp] theorem markAbandon_config (s : State) (a : Append) (cause : AbandonCause) :
    (markAbandon s a cause).config = s.config := by simp [markAbandon]
@[simp] theorem markAbandon_warning (s : State) (a : Append) (cause : AbandonCause) :
    (markAbandon s a cause).warning = s.warning := by simp [markAbandon]
@[simp] theorem markAbandon_resetting (s : State) (a : Append) (cause : AbandonCause) :
    (markAbandon s a cause).resetting = s.resetting := by simp [markAbandon]
@[simp] theorem markAbandon_free (s : State) (a : Append) (cause : AbandonCause) :
    (markAbandon s a cause).free = s.free := by simp [markAbandon]
@[simp] theorem markAbandon_pending (s : State) (a : Append) (cause : AbandonCause) :
    (markAbandon s a cause).pending = s.pending := by simp [markAbandon]

@[simp] theorem abandonOn_mem (s : State) (a : Append) (cause : AbandonCause) :
    (abandonOn s a cause).mem = s.mem := by
  unfold abandonOn; (repeat' split) <;> simp
@[simp] theorem abandonOn_decoder (s : State) (a : Append) (cause : AbandonCause) :
    (abandonOn s a cause).decoder = s.decoder := by
  unfold abandonOn; (repeat' split) <;> simp
@[simp] theorem abandonOn_tracker (s : State) (a : Append) (cause : AbandonCause) :
    (abandonOn s a cause).tracker = s.tracker := by
  unfold abandonOn; (repeat' split) <;> simp
@[simp] theorem abandonOn_engine (s : State) (a : Append) (cause : AbandonCause) :
    (abandonOn s a cause).engine = s.engine := by
  unfold abandonOn; (repeat' split) <;> simp
@[simp] theorem abandonOn_command (s : State) (a : Append) (cause : AbandonCause) :
    (abandonOn s a cause).command = s.command := by
  unfold abandonOn; (repeat' split) <;> simp
@[simp] theorem abandonOn_warning (s : State) (a : Append) (cause : AbandonCause) :
    (abandonOn s a cause).warning = s.warning := by
  unfold abandonOn; (repeat' split) <;> simp
@[simp] theorem abandonOn_resetting (s : State) (a : Append) (cause : AbandonCause) :
    (abandonOn s a cause).resetting = s.resetting := by
  unfold abandonOn; (repeat' split) <;> simp
@[simp] theorem abandonOn_pending (s : State) (a : Append) (cause : AbandonCause) :
    (abandonOn s a cause).pending = s.pending := by
  unfold abandonOn; (repeat' split) <;> simp

@[simp] theorem timerAtLimit_mem (s : State) (t : HoldTimer) :
    (timerAtLimit s t).mem = s.mem := by simp [timerAtLimit]
@[simp] theorem timerAtLimit_decoder (s : State) (t : HoldTimer) :
    (timerAtLimit s t).decoder = s.decoder := by simp [timerAtLimit]
@[simp] theorem timerAtLimit_txn (s : State) (t : HoldTimer) :
    (timerAtLimit s t).txn = s.txn := by simp [timerAtLimit]
@[simp] theorem timerAtLimit_journal (s : State) (t : HoldTimer) :
    (timerAtLimit s t).journal = s.journal := by simp [timerAtLimit]
@[simp] theorem timerAtLimit_tracker (s : State) (t : HoldTimer) :
    (timerAtLimit s t).tracker = s.tracker := by simp [timerAtLimit]
@[simp] theorem timerAtLimit_engine (s : State) (t : HoldTimer) :
    (timerAtLimit s t).engine = s.engine := by simp [timerAtLimit]
@[simp] theorem timerAtLimit_port (s : State) (t : HoldTimer) :
    (timerAtLimit s t).port = s.port := by simp [timerAtLimit]
@[simp] theorem timerAtLimit_control (s : State) (t : HoldTimer) :
    (timerAtLimit s t).control = s.control := by simp [timerAtLimit]
@[simp] theorem timerAtLimit_command (s : State) (t : HoldTimer) :
    (timerAtLimit s t).command = s.command := by simp [timerAtLimit]
@[simp] theorem timerAtLimit_status (s : State) (t : HoldTimer) :
    (timerAtLimit s t).status = s.status := by simp [timerAtLimit]
@[simp] theorem timerAtLimit_config (s : State) (t : HoldTimer) :
    (timerAtLimit s t).config = s.config := by simp [timerAtLimit]
@[simp] theorem timerAtLimit_warning (s : State) (t : HoldTimer) :
    (timerAtLimit s t).warning = s.warning := by simp [timerAtLimit]
@[simp] theorem timerAtLimit_resetting (s : State) (t : HoldTimer) :
    (timerAtLimit s t).resetting = s.resetting := by simp [timerAtLimit]
@[simp] theorem timerAtLimit_free (s : State) (t : HoldTimer) :
    (timerAtLimit s t).free = s.free := by simp [timerAtLimit]
@[simp] theorem timerAtLimit_pending (s : State) (t : HoldTimer) :
    (timerAtLimit s t).pending = s.pending := by simp [timerAtLimit]

@[simp] theorem expireHold_mem (s : State) : (expireHold s).mem = s.mem := by
  unfold expireHold; (repeat' split) <;> simp
@[simp] theorem expireHold_decoder (s : State) : (expireHold s).decoder = s.decoder := by
  unfold expireHold; (repeat' split) <;> simp
@[simp] theorem expireHold_tracker (s : State) : (expireHold s).tracker = s.tracker := by
  unfold expireHold; (repeat' split) <;> simp
@[simp] theorem expireHold_engine (s : State) : (expireHold s).engine = s.engine := by
  unfold expireHold; (repeat' split) <;> simp
@[simp] theorem expireHold_command (s : State) : (expireHold s).command = s.command := by
  unfold expireHold; (repeat' split) <;> simp
@[simp] theorem expireHold_warning (s : State) : (expireHold s).warning = s.warning := by
  unfold expireHold; (repeat' split) <;> simp
@[simp] theorem expireHold_resetting (s : State) : (expireHold s).resetting = s.resetting := by
  unfold expireHold; (repeat' split) <;> simp
@[simp] theorem expireHold_pending (s : State) : (expireHold s).pending = s.pending := by
  unfold expireHold; (repeat' split) <;> simp

@[simp] theorem startTimer_mem (s : State) : (startTimer s).mem = s.mem := by
  unfold startTimer; (repeat' split) <;> simp
@[simp] theorem startTimer_decoder (s : State) : (startTimer s).decoder = s.decoder := by
  unfold startTimer; (repeat' split) <;> simp
@[simp] theorem startTimer_txn (s : State) : (startTimer s).txn = s.txn := by
  unfold startTimer; (repeat' split) <;> simp
@[simp] theorem startTimer_journal (s : State) : (startTimer s).journal = s.journal := by
  unfold startTimer; (repeat' split) <;> simp
@[simp] theorem startTimer_tracker (s : State) : (startTimer s).tracker = s.tracker := by
  unfold startTimer; (repeat' split) <;> simp
@[simp] theorem startTimer_engine (s : State) : (startTimer s).engine = s.engine := by
  unfold startTimer; (repeat' split) <;> simp
@[simp] theorem startTimer_port (s : State) : (startTimer s).port = s.port := by
  unfold startTimer; (repeat' split) <;> simp
@[simp] theorem startTimer_control (s : State) : (startTimer s).control = s.control := by
  unfold startTimer; (repeat' split) <;> simp
@[simp] theorem startTimer_command (s : State) : (startTimer s).command = s.command := by
  unfold startTimer; (repeat' split) <;> simp
@[simp] theorem startTimer_status (s : State) : (startTimer s).status = s.status := by
  unfold startTimer; (repeat' split) <;> simp
@[simp] theorem startTimer_config (s : State) : (startTimer s).config = s.config := by
  unfold startTimer; (repeat' split) <;> simp
@[simp] theorem startTimer_warning (s : State) : (startTimer s).warning = s.warning := by
  unfold startTimer; (repeat' split) <;> simp
@[simp] theorem startTimer_resetting (s : State) : (startTimer s).resetting = s.resetting := by
  unfold startTimer; (repeat' split) <;> simp
@[simp] theorem startTimer_free (s : State) : (startTimer s).free = s.free := by
  unfold startTimer; (repeat' split) <;> simp
@[simp] theorem startTimer_pending (s : State) : (startTimer s).pending = s.pending := by
  unfold startTimer; (repeat' split) <;> simp

@[simp] theorem faultForPower_mem (s : State) : (faultForPower s).mem = s.mem := by
  unfold faultForPower; (repeat' split) <;> simp
@[simp] theorem faultForPower_decoder (s : State) : (faultForPower s).decoder = s.decoder := by
  unfold faultForPower; (repeat' split) <;> simp
@[simp] theorem faultForPower_journal (s : State) : (faultForPower s).journal = s.journal := by
  unfold faultForPower; (repeat' split) <;> simp
@[simp] theorem faultForPower_tracker (s : State) : (faultForPower s).tracker = s.tracker := by
  unfold faultForPower; (repeat' split) <;> simp
@[simp] theorem faultForPower_engine (s : State) : (faultForPower s).engine = s.engine := by
  unfold faultForPower; (repeat' split) <;> simp
@[simp] theorem faultForPower_command (s : State) : (faultForPower s).command = s.command := by
  unfold faultForPower; (repeat' split) <;> simp
@[simp] theorem faultForPower_warning (s : State) : (faultForPower s).warning = s.warning := by
  unfold faultForPower; (repeat' split) <;> simp
@[simp] theorem faultForPower_resetting (s : State) :
    (faultForPower s).resetting = s.resetting := by
  unfold faultForPower; (repeat' split) <;> simp
@[simp] theorem faultForPower_pending (s : State) : (faultForPower s).pending = s.pending := by
  unfold faultForPower; (repeat' split) <;> simp

@[simp] theorem writeUnderWarning_mem (s : State) (c : HostCycle) :
    (writeUnderWarning s c).mem = s.mem := by
  unfold writeUnderWarning; (repeat' split) <;> simp
@[simp] theorem writeUnderWarning_decoder (s : State) (c : HostCycle) :
    (writeUnderWarning s c).decoder = s.decoder := by
  unfold writeUnderWarning; (repeat' split) <;> simp
@[simp] theorem writeUnderWarning_tracker (s : State) (c : HostCycle) :
    (writeUnderWarning s c).tracker = s.tracker := by
  unfold writeUnderWarning; (repeat' split) <;> simp
@[simp] theorem writeUnderWarning_engine (s : State) (c : HostCycle) :
    (writeUnderWarning s c).engine = s.engine := by
  unfold writeUnderWarning; (repeat' split) <;> simp
@[simp] theorem writeUnderWarning_command (s : State) (c : HostCycle) :
    (writeUnderWarning s c).command = s.command := by
  unfold writeUnderWarning; (repeat' split) <;> simp
@[simp] theorem writeUnderWarning_warning (s : State) (c : HostCycle) :
    (writeUnderWarning s c).warning = s.warning := by
  unfold writeUnderWarning; (repeat' split) <;> simp
@[simp] theorem writeUnderWarning_resetting (s : State) (c : HostCycle) :
    (writeUnderWarning s c).resetting = s.resetting := by
  unfold writeUnderWarning; (repeat' split) <;> simp
@[simp] theorem writeUnderWarning_pending (s : State) (c : HostCycle) :
    (writeUnderWarning s c).pending = s.pending := by
  unfold writeUnderWarning; (repeat' split) <;> simp

@[simp] theorem hostOnWarning_mem (s : State) : (hostOnWarning s).mem = s.mem := by
  unfold hostOnWarning; (repeat' split) <;> simp
@[simp] theorem hostOnWarning_decoder (s : State) : (hostOnWarning s).decoder = s.decoder := by
  unfold hostOnWarning; (repeat' split) <;> simp
@[simp] theorem hostOnWarning_tracker (s : State) : (hostOnWarning s).tracker = s.tracker := by
  unfold hostOnWarning; (repeat' split) <;> simp
@[simp] theorem hostOnWarning_engine (s : State) : (hostOnWarning s).engine = s.engine := by
  unfold hostOnWarning; (repeat' split) <;> simp
@[simp] theorem hostOnWarning_command (s : State) : (hostOnWarning s).command = s.command := by
  unfold hostOnWarning; (repeat' split) <;> simp
@[simp] theorem hostOnWarning_warning (s : State) : (hostOnWarning s).warning = s.warning := by
  unfold hostOnWarning; (repeat' split) <;> simp
@[simp] theorem hostOnWarning_resetting (s : State) :
    (hostOnWarning s).resetting = s.resetting := by
  unfold hostOnWarning; (repeat' split) <;> simp
@[simp] theorem hostOnWarning_pending (s : State) : (hostOnWarning s).pending = s.pending := by
  unfold hostOnWarning; (repeat' split) <;> simp

end Sys2Proof.Machine
end

