-- ==== Sys2Proof/Laws/ControlFrames.lean ====
section
/-! SUPPORT. What each course of the transaction controller leaves unchanged, block by block. -/

-- One declaration at a time: the package as one text then needs few threads.
set_option Elab.async false

namespace Sys2Proof.Machine

@[simp] theorem requestAdvance_mem (s : State) : (requestAdvance s).mem = s.mem := by
  unfold requestAdvance; (repeat' split) <;> simp
@[simp] theorem requestAdvance_host (s : State) : (requestAdvance s).host = s.host := by
  unfold requestAdvance; (repeat' split) <;> simp
@[simp] theorem requestAdvance_decoder (s : State) : (requestAdvance s).decoder = s.decoder := by
  unfold requestAdvance; (repeat' split) <;> simp
@[simp] theorem requestAdvance_txn (s : State) : (requestAdvance s).txn = s.txn := by
  unfold requestAdvance; (repeat' split) <;> simp
@[simp] theorem requestAdvance_journal (s : State) : (requestAdvance s).journal = s.journal := by
  unfold requestAdvance; (repeat' split) <;> simp
@[simp] theorem requestAdvance_tracker (s : State) : (requestAdvance s).tracker = s.tracker := by
  unfold requestAdvance; (repeat' split) <;> simp
@[simp] theorem requestAdvance_engine (s : State) : (requestAdvance s).engine = s.engine := by
  unfold requestAdvance; (repeat' split) <;> simp
@[simp] theorem requestAdvance_command (s : State) : (requestAdvance s).command = s.command := by
  unfold requestAdvance; (repeat' split) <;> simp
@[simp] theorem requestAdvance_warning (s : State) : (requestAdvance s).warning = s.warning := by
  unfold requestAdvance; (repeat' split) <;> simp
@[simp] theorem requestAdvance_resetting (s : State) :
    (requestAdvance s).resetting = s.resetting := by
  unfold requestAdvance; (repeat' split) <;> simp
@[simp] theorem requestAdvance_free (s : State) : (requestAdvance s).free = s.free := by
  unfold requestAdvance; (repeat' split) <;> simp
@[simp] theorem requestAdvance_pending (s : State) : (requestAdvance s).pending = s.pending := by
  unfold requestAdvance; (repeat' split) <;> simp

@[simp] theorem closingEnds_mem (s : State) : (closingEnds s).mem = s.mem := by simp [closingEnds]
@[simp] theorem closingEnds_host (s : State) :
    (closingEnds s).host = s.host := by simp [closingEnds]
@[simp] theorem closingEnds_decoder (s : State) :
    (closingEnds s).decoder = s.decoder := by simp [closingEnds]
@[simp] theorem closingEnds_journal (s : State) :
    (closingEnds s).journal = s.journal := by simp [closingEnds]
@[simp] theorem closingEnds_tracker (s : State) :
    (closingEnds s).tracker = s.tracker := by simp [closingEnds]
@[simp] theorem closingEnds_engine (s : State) :
    (closingEnds s).engine = s.engine := by simp [closingEnds]
@[simp] theorem closingEnds_command (s : State) :
    (closingEnds s).command = s.command := by simp [closingEnds]
@[simp] theorem closingEnds_warning (s : State) :
    (closingEnds s).warning = s.warning := by simp [closingEnds]
@[simp] theorem closingEnds_resetting (s : State) :
    (closingEnds s).resetting = s.resetting := by simp [closingEnds]
@[simp] theorem closingEnds_free (s : State) :
    (closingEnds s).free = s.free := by simp [closingEnds]
@[simp] theorem closingEnds_pending (s : State) :
    (closingEnds s).pending = s.pending := by simp [closingEnds]

@[simp] theorem enterClosing_mem (s : State) : (enterClosing s).mem = s.mem := by
  unfold enterClosing; dsimp only; (repeat' split) <;> simp
@[simp] theorem enterClosing_host (s : State) : (enterClosing s).host = s.host := by
  unfold enterClosing; dsimp only; (repeat' split) <;> simp
@[simp] theorem enterClosing_decoder (s : State) : (enterClosing s).decoder = s.decoder := by
  unfold enterClosing; dsimp only; (repeat' split) <;> simp
@[simp] theorem enterClosing_journal (s : State) : (enterClosing s).journal = s.journal := by
  unfold enterClosing; dsimp only; (repeat' split) <;> simp
@[simp] theorem enterClosing_tracker (s : State) : (enterClosing s).tracker = s.tracker := by
  unfold enterClosing; dsimp only; (repeat' split) <;> simp
@[simp] theorem enterClosing_engine (s : State) : (enterClosing s).engine = s.engine := by
  unfold enterClosing; dsimp only; (repeat' split) <;> simp
@[simp] theorem enterClosing_command (s : State) : (enterClosing s).command = s.command := by
  unfold enterClosing; dsimp only; (repeat' split) <;> simp
@[simp] theorem enterClosing_warning (s : State) : (enterClosing s).warning = s.warning := by
  unfold enterClosing; dsimp only; (repeat' split) <;> simp
@[simp] theorem enterClosing_resetting (s : State) : (enterClosing s).resetting = s.resetting := by
  unfold enterClosing; dsimp only; (repeat' split) <;> simp
@[simp] theorem enterClosing_free (s : State) : (enterClosing s).free = s.free := by
  unfold enterClosing; dsimp only; (repeat' split) <;> simp
@[simp] theorem enterClosing_pending (s : State) : (enterClosing s).pending = s.pending := by
  unfold enterClosing; dsimp only; (repeat' split) <;> simp

@[simp] theorem innerAbortEnds_mem (s : State) :
    (innerAbortEnds s).mem = s.mem := by simp [innerAbortEnds]
@[simp] theorem innerAbortEnds_decoder (s : State) :
    (innerAbortEnds s).decoder = s.decoder := by simp [innerAbortEnds]
@[simp] theorem innerAbortEnds_engine (s : State) :
    (innerAbortEnds s).engine = s.engine := by simp [innerAbortEnds]
@[simp] theorem innerAbortEnds_command (s : State) :
    (innerAbortEnds s).command = s.command := by simp [innerAbortEnds]
@[simp] theorem innerAbortEnds_warning (s : State) :
    (innerAbortEnds s).warning = s.warning := by simp [innerAbortEnds]
@[simp] theorem innerAbortEnds_resetting (s : State) :
    (innerAbortEnds s).resetting = s.resetting := by simp [innerAbortEnds]
@[simp] theorem innerAbortEnds_pending (s : State) :
    (innerAbortEnds s).pending = s.pending := by simp [innerAbortEnds]

@[simp] theorem truncateJournal_mem (s : State) : (truncateJournal s).mem = s.mem := by
  unfold truncateJournal; (repeat' split) <;> simp
@[simp] theorem truncateJournal_decoder (s : State) : (truncateJournal s).decoder = s.decoder := by
  unfold truncateJournal; (repeat' split) <;> simp
@[simp] theorem truncateJournal_engine (s : State) : (truncateJournal s).engine = s.engine := by
  unfold truncateJournal; (repeat' split) <;> simp
@[simp] theorem truncateJournal_command (s : State) : (truncateJournal s).command = s.command := by
  unfold truncateJournal; (repeat' split) <;> simp
@[simp] theorem truncateJournal_warning (s : State) : (truncateJournal s).warning = s.warning := by
  unfold truncateJournal; (repeat' split) <;> simp
@[simp] theorem truncateJournal_resetting (s : State) :
    (truncateJournal s).resetting = s.resetting := by
  unfold truncateJournal; (repeat' split) <;> simp
@[simp] theorem truncateJournal_pending (s : State) : (truncateJournal s).pending = s.pending := by
  unfold truncateJournal; (repeat' split) <;> simp

@[simp] theorem runEnds_mem (s : State) : (runEnds s).mem = s.mem := by
  unfold runEnds; dsimp only; (repeat' split) <;> simp
@[simp] theorem runEnds_decoder (s : State) : (runEnds s).decoder = s.decoder := by
  unfold runEnds; dsimp only; (repeat' split) <;> simp
@[simp] theorem runEnds_command (s : State) : (runEnds s).command = s.command := by
  unfold runEnds; dsimp only; (repeat' split) <;> simp
@[simp] theorem runEnds_warning (s : State) : (runEnds s).warning = s.warning := by
  unfold runEnds; dsimp only; (repeat' split) <;> simp
@[simp] theorem runEnds_resetting (s : State) : (runEnds s).resetting = s.resetting := by
  unfold runEnds; dsimp only; (repeat' split) <;> simp
@[simp] theorem runEnds_pending (s : State) : (runEnds s).pending = s.pending := by
  unfold runEnds; dsimp only; (repeat' split) <;> simp

@[simp] theorem engineGoesOn_mem (s : State) : (engineGoesOn s).mem = s.mem := by
  unfold engineGoesOn; (repeat' split) <;> simp
@[simp] theorem engineGoesOn_host (s : State) : (engineGoesOn s).host = s.host := by
  unfold engineGoesOn; (repeat' split) <;> simp
@[simp] theorem engineGoesOn_decoder (s : State) : (engineGoesOn s).decoder = s.decoder := by
  unfold engineGoesOn; (repeat' split) <;> simp
@[simp] theorem engineGoesOn_txn (s : State) : (engineGoesOn s).txn = s.txn := by
  unfold engineGoesOn; (repeat' split) <;> simp
@[simp] theorem engineGoesOn_journal (s : State) : (engineGoesOn s).journal = s.journal := by
  unfold engineGoesOn; (repeat' split) <;> simp
@[simp] theorem engineGoesOn_tracker (s : State) : (engineGoesOn s).tracker = s.tracker := by
  unfold engineGoesOn; (repeat' split) <;> simp
@[simp] theorem engineGoesOn_control (s : State) : (engineGoesOn s).control = s.control := by
  unfold engineGoesOn; (repeat' split) <;> simp
@[simp] theorem engineGoesOn_command (s : State) : (engineGoesOn s).command = s.command := by
  unfold engineGoesOn; (repeat' split) <;> simp
@[simp] theorem engineGoesOn_status (s : State) : (engineGoesOn s).status = s.status := by
  unfold engineGoesOn; (repeat' split) <;> simp
@[simp] theorem engineGoesOn_config (s : State) : (engineGoesOn s).config = s.config := by
  unfold engineGoesOn; (repeat' split) <;> simp
@[simp] theorem engineGoesOn_warning (s : State) : (engineGoesOn s).warning = s.warning := by
  unfold engineGoesOn; (repeat' split) <;> simp
@[simp] theorem engineGoesOn_resetting (s : State) : (engineGoesOn s).resetting = s.resetting := by
  unfold engineGoesOn; (repeat' split) <;> simp
@[simp] theorem engineGoesOn_free (s : State) : (engineGoesOn s).free = s.free := by
  unfold engineGoesOn; (repeat' split) <;> simp
@[simp] theorem engineGoesOn_pending (s : State) : (engineGoesOn s).pending = s.pending := by
  unfold engineGoesOn; (repeat' split) <;> simp

@[simp] theorem startRun_mem (s : State) (n : Nat) (stop : Nat) (target : Target) :
    (startRun s n stop target).mem = s.mem := by
  unfold startRun; (repeat' split) <;> simp
@[simp] theorem startRun_decoder (s : State) (n : Nat) (stop : Nat) (target : Target) :
    (startRun s n stop target).decoder = s.decoder := by
  unfold startRun; (repeat' split) <;> simp
@[simp] theorem startRun_command (s : State) (n : Nat) (stop : Nat) (target : Target) :
    (startRun s n stop target).command = s.command := by
  unfold startRun; (repeat' split) <;> simp
@[simp] theorem startRun_warning (s : State) (n : Nat) (stop : Nat) (target : Target) :
    (startRun s n stop target).warning = s.warning := by
  unfold startRun; (repeat' split) <;> simp
@[simp] theorem startRun_resetting (s : State) (n : Nat) (stop : Nat) (target : Target) :
    (startRun s n stop target).resetting = s.resetting := by
  unfold startRun; (repeat' split) <;> simp
@[simp] theorem startRun_pending (s : State) (n : Nat) (stop : Nat) (target : Target) :
    (startRun s n stop target).pending = s.pending := by
  unfold startRun; (repeat' split) <;> simp

@[simp] theorem enterAborting_mem (s : State) (target : Nat) (stop : Nat) :
    (enterAborting s target stop).mem = s.mem := by simp [enterAborting]
@[simp] theorem enterAborting_decoder (s : State) (target : Nat) (stop : Nat) :
    (enterAborting s target stop).decoder = s.decoder := by simp [enterAborting]
@[simp] theorem enterAborting_command (s : State) (target : Nat) (stop : Nat) :
    (enterAborting s target stop).command = s.command := by simp [enterAborting]
@[simp] theorem enterAborting_warning (s : State) (target : Nat) (stop : Nat) :
    (enterAborting s target stop).warning = s.warning := by simp [enterAborting]
@[simp] theorem enterAborting_resetting (s : State) (target : Nat) (stop : Nat) :
    (enterAborting s target stop).resetting = s.resetting := by simp [enterAborting]
@[simp] theorem enterAborting_pending (s : State) (target : Nat) (stop : Nat) :
    (enterAborting s target stop).pending = s.pending := by simp [enterAborting]

@[simp] theorem runAcknowledge_mem (s : State) : (runAcknowledge s).mem = s.mem := by
  unfold runAcknowledge; (repeat' split) <;> simp
@[simp] theorem runAcknowledge_host (s : State) : (runAcknowledge s).host = s.host := by
  unfold runAcknowledge; (repeat' split) <;> simp
@[simp] theorem runAcknowledge_decoder (s : State) : (runAcknowledge s).decoder = s.decoder := by
  unfold runAcknowledge; (repeat' split) <;> simp
@[simp] theorem runAcknowledge_journal (s : State) : (runAcknowledge s).journal = s.journal := by
  unfold runAcknowledge; (repeat' split) <;> simp
@[simp] theorem runAcknowledge_tracker (s : State) : (runAcknowledge s).tracker = s.tracker := by
  unfold runAcknowledge; (repeat' split) <;> simp
@[simp] theorem runAcknowledge_engine (s : State) : (runAcknowledge s).engine = s.engine := by
  unfold runAcknowledge; (repeat' split) <;> simp
@[simp] theorem runAcknowledge_command (s : State) : (runAcknowledge s).command = s.command := by
  unfold runAcknowledge; (repeat' split) <;> simp
@[simp] theorem runAcknowledge_warning (s : State) : (runAcknowledge s).warning = s.warning := by
  unfold runAcknowledge; (repeat' split) <;> simp
@[simp] theorem runAcknowledge_resetting (s : State) :
    (runAcknowledge s).resetting = s.resetting := by
  unfold runAcknowledge; (repeat' split) <;> simp
@[simp] theorem runAcknowledge_free (s : State) : (runAcknowledge s).free = s.free := by
  unfold runAcknowledge; (repeat' split) <;> simp
@[simp] theorem runAcknowledge_pending (s : State) : (runAcknowledge s).pending = s.pending := by
  unfold runAcknowledge; (repeat' split) <;> simp

@[simp] theorem runBegin_mem (s : State) (q : Half) : (runBegin s q).mem = s.mem := by
  unfold runBegin; (repeat' split) <;> simp
@[simp] theorem runBegin_host (s : State) (q : Half) : (runBegin s q).host = s.host := by
  unfold runBegin; (repeat' split) <;> simp
@[simp] theorem runBegin_decoder (s : State) (q : Half) : (runBegin s q).decoder = s.decoder := by
  unfold runBegin; (repeat' split) <;> simp
@[simp] theorem runBegin_journal (s : State) (q : Half) : (runBegin s q).journal = s.journal := by
  unfold runBegin; (repeat' split) <;> simp
@[simp] theorem runBegin_tracker (s : State) (q : Half) : (runBegin s q).tracker = s.tracker := by
  unfold runBegin; (repeat' split) <;> simp
@[simp] theorem runBegin_engine (s : State) (q : Half) : (runBegin s q).engine = s.engine := by
  unfold runBegin; (repeat' split) <;> simp
@[simp] theorem runBegin_command (s : State) (q : Half) : (runBegin s q).command = s.command := by
  unfold runBegin; (repeat' split) <;> simp
@[simp] theorem runBegin_warning (s : State) (q : Half) : (runBegin s q).warning = s.warning := by
  unfold runBegin; (repeat' split) <;> simp
@[simp] theorem runBegin_resetting (s : State) (q : Half) :
    (runBegin s q).resetting = s.resetting := by
  unfold runBegin; (repeat' split) <;> simp
@[simp] theorem runBegin_free (s : State) (q : Half) : (runBegin s q).free = s.free := by
  unfold runBegin; (repeat' split) <;> simp
@[simp] theorem runBegin_pending (s : State) (q : Half) : (runBegin s q).pending = s.pending := by
  unfold runBegin; (repeat' split) <;> simp

@[simp] theorem runCommit_mem (s : State) : (runCommit s).mem = s.mem := by
  unfold runCommit; (repeat' split) <;> simp
@[simp] theorem runCommit_host (s : State) : (runCommit s).host = s.host := by
  unfold runCommit; (repeat' split) <;> simp
@[simp] theorem runCommit_decoder (s : State) : (runCommit s).decoder = s.decoder := by
  unfold runCommit; (repeat' split) <;> simp
@[simp] theorem runCommit_journal (s : State) : (runCommit s).journal = s.journal := by
  unfold runCommit; (repeat' split) <;> simp
@[simp] theorem runCommit_engine (s : State) : (runCommit s).engine = s.engine := by
  unfold runCommit; (repeat' split) <;> simp
@[simp] theorem runCommit_command (s : State) : (runCommit s).command = s.command := by
  unfold runCommit; (repeat' split) <;> simp
@[simp] theorem runCommit_warning (s : State) : (runCommit s).warning = s.warning := by
  unfold runCommit; (repeat' split) <;> simp
@[simp] theorem runCommit_resetting (s : State) : (runCommit s).resetting = s.resetting := by
  unfold runCommit; (repeat' split) <;> simp
@[simp] theorem runCommit_free (s : State) : (runCommit s).free = s.free := by
  unfold runCommit; (repeat' split) <;> simp
@[simp] theorem runCommit_pending (s : State) : (runCommit s).pending = s.pending := by
  unfold runCommit; (repeat' split) <;> simp

@[simp] theorem cancelSetup_mem (s : State) : (cancelSetup s).mem = s.mem := by simp [cancelSetup]
@[simp] theorem cancelSetup_host (s : State) :
    (cancelSetup s).host = s.host := by simp [cancelSetup]
@[simp] theorem cancelSetup_decoder (s : State) :
    (cancelSetup s).decoder = s.decoder := by simp [cancelSetup]
@[simp] theorem cancelSetup_journal (s : State) :
    (cancelSetup s).journal = s.journal := by simp [cancelSetup]
@[simp] theorem cancelSetup_tracker (s : State) :
    (cancelSetup s).tracker = s.tracker := by simp [cancelSetup]
@[simp] theorem cancelSetup_engine (s : State) :
    (cancelSetup s).engine = s.engine := by simp [cancelSetup]
@[simp] theorem cancelSetup_command (s : State) :
    (cancelSetup s).command = s.command := by simp [cancelSetup]
@[simp] theorem cancelSetup_warning (s : State) :
    (cancelSetup s).warning = s.warning := by simp [cancelSetup]
@[simp] theorem cancelSetup_resetting (s : State) :
    (cancelSetup s).resetting = s.resetting := by simp [cancelSetup]
@[simp] theorem cancelSetup_free (s : State) :
    (cancelSetup s).free = s.free := by simp [cancelSetup]
@[simp] theorem cancelSetup_pending (s : State) :
    (cancelSetup s).pending = s.pending := by simp [cancelSetup]

@[simp] theorem runAbort_mem (s : State) : (runAbort s).mem = s.mem := by
  unfold runAbort; (repeat' split) <;> simp
@[simp] theorem runAbort_decoder (s : State) : (runAbort s).decoder = s.decoder := by
  unfold runAbort; (repeat' split) <;> simp
@[simp] theorem runAbort_command (s : State) : (runAbort s).command = s.command := by
  unfold runAbort; (repeat' split) <;> simp
@[simp] theorem runAbort_warning (s : State) : (runAbort s).warning = s.warning := by
  unfold runAbort; (repeat' split) <;> simp
@[simp] theorem runAbort_resetting (s : State) : (runAbort s).resetting = s.resetting := by
  unfold runAbort; (repeat' split) <;> simp
@[simp] theorem runAbort_pending (s : State) : (runAbort s).pending = s.pending := by
  unfold runAbort; (repeat' split) <;> simp

@[simp] theorem runUnwind_mem (s : State) : (runUnwind s).mem = s.mem := by
  unfold runUnwind; (repeat' split) <;> simp
@[simp] theorem runUnwind_decoder (s : State) : (runUnwind s).decoder = s.decoder := by
  unfold runUnwind; (repeat' split) <;> simp
@[simp] theorem runUnwind_command (s : State) : (runUnwind s).command = s.command := by
  unfold runUnwind; (repeat' split) <;> simp
@[simp] theorem runUnwind_warning (s : State) : (runUnwind s).warning = s.warning := by
  unfold runUnwind; (repeat' split) <;> simp
@[simp] theorem runUnwind_resetting (s : State) : (runUnwind s).resetting = s.resetting := by
  unfold runUnwind; (repeat' split) <;> simp
@[simp] theorem runUnwind_pending (s : State) : (runUnwind s).pending = s.pending := by
  unfold runUnwind; (repeat' split) <;> simp

@[simp] theorem enterSetup_mem (s : State) (o : SetupOrigin) :
    (enterSetup s o).mem = s.mem := by simp [enterSetup]
@[simp] theorem enterSetup_host (s : State) (o : SetupOrigin) :
    (enterSetup s o).host = s.host := by simp [enterSetup]
@[simp] theorem enterSetup_decoder (s : State) (o : SetupOrigin) :
    (enterSetup s o).decoder = s.decoder := by simp [enterSetup]
@[simp] theorem enterSetup_journal (s : State) (o : SetupOrigin) :
    (enterSetup s o).journal = s.journal := by simp [enterSetup]
@[simp] theorem enterSetup_tracker (s : State) (o : SetupOrigin) :
    (enterSetup s o).tracker = s.tracker := by simp [enterSetup]
@[simp] theorem enterSetup_engine (s : State) (o : SetupOrigin) :
    (enterSetup s o).engine = s.engine := by simp [enterSetup]
@[simp] theorem enterSetup_command (s : State) (o : SetupOrigin) :
    (enterSetup s o).command = s.command := by simp [enterSetup]
@[simp] theorem enterSetup_warning (s : State) (o : SetupOrigin) :
    (enterSetup s o).warning = s.warning := by simp [enterSetup]
@[simp] theorem enterSetup_resetting (s : State) (o : SetupOrigin) :
    (enterSetup s o).resetting = s.resetting := by simp [enterSetup]
@[simp] theorem enterSetup_free (s : State) (o : SetupOrigin) :
    (enterSetup s o).free = s.free := by simp [enterSetup]
@[simp] theorem enterSetup_pending (s : State) (o : SetupOrigin) :
    (enterSetup s o).pending = s.pending := by simp [enterSetup]

@[simp] theorem runSetup_mem (s : State) : (runSetup s).mem = s.mem := by
  unfold runSetup; (repeat' split) <;> simp
@[simp] theorem runSetup_host (s : State) : (runSetup s).host = s.host := by
  unfold runSetup; (repeat' split) <;> simp
@[simp] theorem runSetup_decoder (s : State) : (runSetup s).decoder = s.decoder := by
  unfold runSetup; (repeat' split) <;> simp
@[simp] theorem runSetup_journal (s : State) : (runSetup s).journal = s.journal := by
  unfold runSetup; (repeat' split) <;> simp
@[simp] theorem runSetup_tracker (s : State) : (runSetup s).tracker = s.tracker := by
  unfold runSetup; (repeat' split) <;> simp
@[simp] theorem runSetup_engine (s : State) : (runSetup s).engine = s.engine := by
  unfold runSetup; (repeat' split) <;> simp
@[simp] theorem runSetup_command (s : State) : (runSetup s).command = s.command := by
  unfold runSetup; (repeat' split) <;> simp
@[simp] theorem runSetup_warning (s : State) : (runSetup s).warning = s.warning := by
  unfold runSetup; (repeat' split) <;> simp
@[simp] theorem runSetup_resetting (s : State) : (runSetup s).resetting = s.resetting := by
  unfold runSetup; (repeat' split) <;> simp
@[simp] theorem runSetup_free (s : State) : (runSetup s).free = s.free := by
  unfold runSetup; (repeat' split) <;> simp
@[simp] theorem runSetup_pending (s : State) : (runSetup s).pending = s.pending := by
  unfold runSetup; (repeat' split) <;> simp

@[simp] theorem runAdopt_mem (s : State) : (runAdopt s).mem = s.mem := by
  unfold runAdopt; (repeat' split) <;> simp
@[simp] theorem runAdopt_host (s : State) : (runAdopt s).host = s.host := by
  unfold runAdopt; (repeat' split) <;> simp
@[simp] theorem runAdopt_decoder (s : State) : (runAdopt s).decoder = s.decoder := by
  unfold runAdopt; (repeat' split) <;> simp
@[simp] theorem runAdopt_journal (s : State) : (runAdopt s).journal = s.journal := by
  unfold runAdopt; (repeat' split) <;> simp
@[simp] theorem runAdopt_tracker (s : State) : (runAdopt s).tracker = s.tracker := by
  unfold runAdopt; (repeat' split) <;> simp
@[simp] theorem runAdopt_engine (s : State) : (runAdopt s).engine = s.engine := by
  unfold runAdopt; (repeat' split) <;> simp
@[simp] theorem runAdopt_command (s : State) : (runAdopt s).command = s.command := by
  unfold runAdopt; (repeat' split) <;> simp
@[simp] theorem runAdopt_warning (s : State) : (runAdopt s).warning = s.warning := by
  unfold runAdopt; (repeat' split) <;> simp
@[simp] theorem runAdopt_resetting (s : State) : (runAdopt s).resetting = s.resetting := by
  unfold runAdopt; (repeat' split) <;> simp
@[simp] theorem runAdopt_free (s : State) : (runAdopt s).free = s.free := by
  unfold runAdopt; (repeat' split) <;> simp
@[simp] theorem runAdopt_pending (s : State) : (runAdopt s).pending = s.pending := by
  unfold runAdopt; (repeat' split) <;> simp

@[simp] theorem runDiscard_mem (s : State) : (runDiscard s).mem = s.mem := by
  unfold runDiscard; (repeat' split) <;> simp
@[simp] theorem runDiscard_host (s : State) : (runDiscard s).host = s.host := by
  unfold runDiscard; (repeat' split) <;> simp
@[simp] theorem runDiscard_decoder (s : State) : (runDiscard s).decoder = s.decoder := by
  unfold runDiscard; (repeat' split) <;> simp
@[simp] theorem runDiscard_journal (s : State) : (runDiscard s).journal = s.journal := by
  unfold runDiscard; (repeat' split) <;> simp
@[simp] theorem runDiscard_tracker (s : State) : (runDiscard s).tracker = s.tracker := by
  unfold runDiscard; (repeat' split) <;> simp
@[simp] theorem runDiscard_engine (s : State) : (runDiscard s).engine = s.engine := by
  unfold runDiscard; (repeat' split) <;> simp
@[simp] theorem runDiscard_command (s : State) : (runDiscard s).command = s.command := by
  unfold runDiscard; (repeat' split) <;> simp
@[simp] theorem runDiscard_warning (s : State) : (runDiscard s).warning = s.warning := by
  unfold runDiscard; (repeat' split) <;> simp
@[simp] theorem runDiscard_resetting (s : State) : (runDiscard s).resetting = s.resetting := by
  unfold runDiscard; (repeat' split) <;> simp
@[simp] theorem runDiscard_free (s : State) : (runDiscard s).free = s.free := by
  unfold runDiscard; (repeat' split) <;> simp
@[simp] theorem runDiscard_pending (s : State) : (runDiscard s).pending = s.pending := by
  unfold runDiscard; (repeat' split) <;> simp

@[simp] theorem runCommand_mem (s : State) (cmd : Command) (q : Half) :
    (runCommand s cmd q).mem = s.mem := by
  unfold runCommand; (repeat' split) <;> simp
@[simp] theorem runCommand_decoder (s : State) (cmd : Command) (q : Half) :
    (runCommand s cmd q).decoder = s.decoder := by
  unfold runCommand; (repeat' split) <;> simp
@[simp] theorem runCommand_command (s : State) (cmd : Command) (q : Half) :
    (runCommand s cmd q).command = s.command := by
  unfold runCommand; (repeat' split) <;> simp
@[simp] theorem runCommand_warning (s : State) (cmd : Command) (q : Half) :
    (runCommand s cmd q).warning = s.warning := by
  unfold runCommand; (repeat' split) <;> simp
@[simp] theorem runCommand_resetting (s : State) (cmd : Command) (q : Half) :
    (runCommand s cmd q).resetting = s.resetting := by
  unfold runCommand; (repeat' split) <;> simp
@[simp] theorem runCommand_pending (s : State) (cmd : Command) (q : Half) :
    (runCommand s cmd q).pending = s.pending := by
  unfold runCommand; (repeat' split) <;> simp

@[simp] theorem beginExecution_mem (s : State) (cmd : Command) (q : Half) :
    (beginExecution s cmd q).mem = s.mem := by
  unfold beginExecution; dsimp only; (repeat' split) <;> simp
@[simp] theorem beginExecution_decoder (s : State) (cmd : Command) (q : Half) :
    (beginExecution s cmd q).decoder = s.decoder := by
  unfold beginExecution; dsimp only; (repeat' split) <;> simp
@[simp] theorem beginExecution_command (s : State) (cmd : Command) (q : Half) :
    (beginExecution s cmd q).command = s.command := by
  unfold beginExecution; dsimp only; (repeat' split) <;> simp
@[simp] theorem beginExecution_warning (s : State) (cmd : Command) (q : Half) :
    (beginExecution s cmd q).warning = s.warning := by
  unfold beginExecution; dsimp only; (repeat' split) <;> simp
@[simp] theorem beginExecution_resetting (s : State) (cmd : Command) (q : Half) :
    (beginExecution s cmd q).resetting = s.resetting := by
  unfold beginExecution; dsimp only; (repeat' split) <;> simp
@[simp] theorem beginExecution_pending (s : State) (cmd : Command) (q : Half) :
    (beginExecution s cmd q).pending = s.pending := by
  unfold beginExecution; dsimp only; (repeat' split) <;> simp

@[simp] theorem handOver_mem (s : State) (cmd : Command) (q : Half) :
    (handOver s cmd q).mem = s.mem := by
  unfold handOver; (repeat' split) <;> simp
@[simp] theorem handOver_decoder (s : State) (cmd : Command) (q : Half) :
    (handOver s cmd q).decoder = s.decoder := by
  unfold handOver; (repeat' split) <;> simp
@[simp] theorem handOver_command (s : State) (cmd : Command) (q : Half) :
    (handOver s cmd q).command = s.command := by
  unfold handOver; (repeat' split) <;> simp
@[simp] theorem handOver_warning (s : State) (cmd : Command) (q : Half) :
    (handOver s cmd q).warning = s.warning := by
  unfold handOver; (repeat' split) <;> simp
@[simp] theorem handOver_resetting (s : State) (cmd : Command) (q : Half) :
    (handOver s cmd q).resetting = s.resetting := by
  unfold handOver; (repeat' split) <;> simp
@[simp] theorem handOver_pending (s : State) (cmd : Command) (q : Half) :
    (handOver s cmd q).pending = s.pending := by
  unfold handOver; (repeat' split) <;> simp

@[simp] theorem takeStrobe_mem (s : State) (cmd : Command) :
    (takeStrobe s cmd).mem = s.mem := by simp [takeStrobe]
@[simp] theorem takeStrobe_decoder (s : State) (cmd : Command) :
    (takeStrobe s cmd).decoder = s.decoder := by simp [takeStrobe]
@[simp] theorem takeStrobe_warning (s : State) (cmd : Command) :
    (takeStrobe s cmd).warning = s.warning := by simp [takeStrobe]
@[simp] theorem takeStrobe_resetting (s : State) (cmd : Command) :
    (takeStrobe s cmd).resetting = s.resetting := by simp [takeStrobe]
@[simp] theorem takeStrobe_pending (s : State) (cmd : Command) :
    (takeStrobe s cmd).pending = s.pending := by simp [takeStrobe]

@[simp] theorem ignoreStrobe_mem (s : State) :
    (ignoreStrobe s).mem = s.mem := by simp [ignoreStrobe]
@[simp] theorem ignoreStrobe_host (s : State) :
    (ignoreStrobe s).host = s.host := by simp [ignoreStrobe]
@[simp] theorem ignoreStrobe_decoder (s : State) :
    (ignoreStrobe s).decoder = s.decoder := by simp [ignoreStrobe]
@[simp] theorem ignoreStrobe_txn (s : State) :
    (ignoreStrobe s).txn = s.txn := by simp [ignoreStrobe]
@[simp] theorem ignoreStrobe_journal (s : State) :
    (ignoreStrobe s).journal = s.journal := by simp [ignoreStrobe]
@[simp] theorem ignoreStrobe_tracker (s : State) :
    (ignoreStrobe s).tracker = s.tracker := by simp [ignoreStrobe]
@[simp] theorem ignoreStrobe_engine (s : State) :
    (ignoreStrobe s).engine = s.engine := by simp [ignoreStrobe]
@[simp] theorem ignoreStrobe_port (s : State) :
    (ignoreStrobe s).port = s.port := by simp [ignoreStrobe]
@[simp] theorem ignoreStrobe_control (s : State) :
    (ignoreStrobe s).control = s.control := by simp [ignoreStrobe]
@[simp] theorem ignoreStrobe_status (s : State) :
    (ignoreStrobe s).status = s.status := by simp [ignoreStrobe]
@[simp] theorem ignoreStrobe_config (s : State) :
    (ignoreStrobe s).config = s.config := by simp [ignoreStrobe]
@[simp] theorem ignoreStrobe_warning (s : State) :
    (ignoreStrobe s).warning = s.warning := by simp [ignoreStrobe]
@[simp] theorem ignoreStrobe_resetting (s : State) :
    (ignoreStrobe s).resetting = s.resetting := by simp [ignoreStrobe]
@[simp] theorem ignoreStrobe_free (s : State) :
    (ignoreStrobe s).free = s.free := by simp [ignoreStrobe]
@[simp] theorem ignoreStrobe_pending (s : State) :
    (ignoreStrobe s).pending = s.pending := by simp [ignoreStrobe]

@[simp] theorem advanceEpoch_mem (s : State) (slot : HeaderSlot) (epoch : Long) (g : Geometry) :
    (advanceEpoch s slot epoch g).mem = s.mem := by simp [advanceEpoch]
@[simp] theorem advanceEpoch_host (s : State) (slot : HeaderSlot) (epoch : Long) (g : Geometry) :
    (advanceEpoch s slot epoch g).host = s.host := by simp [advanceEpoch]
@[simp] theorem advanceEpoch_decoder (s : State) (slot : HeaderSlot) (epoch : Long) (g : Geometry) :
    (advanceEpoch s slot epoch g).decoder = s.decoder := by simp [advanceEpoch]
@[simp] theorem advanceEpoch_txn (s : State) (slot : HeaderSlot) (epoch : Long) (g : Geometry) :
    (advanceEpoch s slot epoch g).txn = s.txn := by simp [advanceEpoch]
@[simp] theorem advanceEpoch_engine (s : State) (slot : HeaderSlot) (epoch : Long) (g : Geometry) :
    (advanceEpoch s slot epoch g).engine = s.engine := by simp [advanceEpoch]
@[simp] theorem advanceEpoch_port (s : State) (slot : HeaderSlot) (epoch : Long) (g : Geometry) :
    (advanceEpoch s slot epoch g).port = s.port := by simp [advanceEpoch]
@[simp] theorem advanceEpoch_control (s : State) (slot : HeaderSlot) (epoch : Long) (g : Geometry) :
    (advanceEpoch s slot epoch g).control = s.control := by simp [advanceEpoch]
@[simp] theorem advanceEpoch_command (s : State) (slot : HeaderSlot) (epoch : Long) (g : Geometry) :
    (advanceEpoch s slot epoch g).command = s.command := by simp [advanceEpoch]
@[simp] theorem advanceEpoch_status (s : State) (slot : HeaderSlot) (epoch : Long) (g : Geometry) :
    (advanceEpoch s slot epoch g).status = s.status := by simp [advanceEpoch]
@[simp] theorem advanceEpoch_config (s : State) (slot : HeaderSlot) (epoch : Long) (g : Geometry) :
    (advanceEpoch s slot epoch g).config = s.config := by simp [advanceEpoch]
@[simp] theorem advanceEpoch_warning (s : State) (slot : HeaderSlot) (epoch : Long) (g : Geometry) :
    (advanceEpoch s slot epoch g).warning = s.warning := by simp [advanceEpoch]
@[simp] theorem advanceEpoch_resetting (s : State) (slot : HeaderSlot) (epoch : Long) (g : Geometry) :
    (advanceEpoch s slot epoch g).resetting = s.resetting := by simp [advanceEpoch]
@[simp] theorem advanceEpoch_free (s : State) (slot : HeaderSlot) (epoch : Long) (g : Geometry) :
    (advanceEpoch s slot epoch g).free = s.free := by simp [advanceEpoch]
@[simp] theorem advanceEpoch_pending (s : State) (slot : HeaderSlot) (epoch : Long) (g : Geometry) :
    (advanceEpoch s slot epoch g).pending = s.pending := by simp [advanceEpoch]

@[simp] theorem committingEnds_mem (s : State) :
    (committingEnds s).mem = s.mem := by simp [committingEnds]
@[simp] theorem committingEnds_decoder (s : State) :
    (committingEnds s).decoder = s.decoder := by simp [committingEnds]
@[simp] theorem committingEnds_tracker (s : State) :
    (committingEnds s).tracker = s.tracker := by simp [committingEnds]
@[simp] theorem committingEnds_engine (s : State) :
    (committingEnds s).engine = s.engine := by simp [committingEnds]
@[simp] theorem committingEnds_command (s : State) :
    (committingEnds s).command = s.command := by simp [committingEnds]
@[simp] theorem committingEnds_warning (s : State) :
    (committingEnds s).warning = s.warning := by simp [committingEnds]
@[simp] theorem committingEnds_resetting (s : State) :
    (committingEnds s).resetting = s.resetting := by simp [committingEnds]
@[simp] theorem committingEnds_pending (s : State) :
    (committingEnds s).pending = s.pending := by simp [committingEnds]

@[simp] theorem outerAbortEnds_mem (s : State) :
    (outerAbortEnds s).mem = s.mem := by simp [outerAbortEnds]
@[simp] theorem outerAbortEnds_decoder (s : State) :
    (outerAbortEnds s).decoder = s.decoder := by simp [outerAbortEnds]
@[simp] theorem outerAbortEnds_tracker (s : State) :
    (outerAbortEnds s).tracker = s.tracker := by simp [outerAbortEnds]
@[simp] theorem outerAbortEnds_engine (s : State) :
    (outerAbortEnds s).engine = s.engine := by simp [outerAbortEnds]
@[simp] theorem outerAbortEnds_command (s : State) :
    (outerAbortEnds s).command = s.command := by simp [outerAbortEnds]
@[simp] theorem outerAbortEnds_warning (s : State) :
    (outerAbortEnds s).warning = s.warning := by simp [outerAbortEnds]
@[simp] theorem outerAbortEnds_resetting (s : State) :
    (outerAbortEnds s).resetting = s.resetting := by simp [outerAbortEnds]
@[simp] theorem outerAbortEnds_pending (s : State) :
    (outerAbortEnds s).pending = s.pending := by simp [outerAbortEnds]

@[simp] theorem discardEnds_mem (s : State) : (discardEnds s).mem = s.mem := by simp [discardEnds]
@[simp] theorem discardEnds_host (s : State) :
    (discardEnds s).host = s.host := by simp [discardEnds]
@[simp] theorem discardEnds_decoder (s : State) :
    (discardEnds s).decoder = s.decoder := by simp [discardEnds]
@[simp] theorem discardEnds_journal (s : State) :
    (discardEnds s).journal = s.journal := by simp [discardEnds]
@[simp] theorem discardEnds_tracker (s : State) :
    (discardEnds s).tracker = s.tracker := by simp [discardEnds]
@[simp] theorem discardEnds_command (s : State) :
    (discardEnds s).command = s.command := by simp [discardEnds]
@[simp] theorem discardEnds_warning (s : State) :
    (discardEnds s).warning = s.warning := by simp [discardEnds]
@[simp] theorem discardEnds_resetting (s : State) :
    (discardEnds s).resetting = s.resetting := by simp [discardEnds]
@[simp] theorem discardEnds_free (s : State) :
    (discardEnds s).free = s.free := by simp [discardEnds]
@[simp] theorem discardEnds_pending (s : State) :
    (discardEnds s).pending = s.pending := by simp [discardEnds]

@[simp] theorem loadConfig_mem (s : State) (c : Configuration) :
    (loadConfig s c).mem = s.mem := by simp [loadConfig]
@[simp] theorem loadConfig_host (s : State) (c : Configuration) :
    (loadConfig s c).host = s.host := by simp [loadConfig]
@[simp] theorem loadConfig_txn (s : State) (c : Configuration) :
    (loadConfig s c).txn = s.txn := by simp [loadConfig]
@[simp] theorem loadConfig_journal (s : State) (c : Configuration) :
    (loadConfig s c).journal = s.journal := by simp [loadConfig]
@[simp] theorem loadConfig_tracker (s : State) (c : Configuration) :
    (loadConfig s c).tracker = s.tracker := by simp [loadConfig]
@[simp] theorem loadConfig_engine (s : State) (c : Configuration) :
    (loadConfig s c).engine = s.engine := by simp [loadConfig]
@[simp] theorem loadConfig_control (s : State) (c : Configuration) :
    (loadConfig s c).control = s.control := by simp [loadConfig]
@[simp] theorem loadConfig_command (s : State) (c : Configuration) :
    (loadConfig s c).command = s.command := by simp [loadConfig]
@[simp] theorem loadConfig_status (s : State) (c : Configuration) :
    (loadConfig s c).status = s.status := by simp [loadConfig]
@[simp] theorem loadConfig_warning (s : State) (c : Configuration) :
    (loadConfig s c).warning = s.warning := by simp [loadConfig]
@[simp] theorem loadConfig_resetting (s : State) (c : Configuration) :
    (loadConfig s c).resetting = s.resetting := by simp [loadConfig]
@[simp] theorem loadConfig_free (s : State) (c : Configuration) :
    (loadConfig s c).free = s.free := by simp [loadConfig]
@[simp] theorem loadConfig_pending (s : State) (c : Configuration) :
    (loadConfig s c).pending = s.pending := by simp [loadConfig]

@[simp] theorem adoptInstalls_mem (s : State) :
    (adoptInstalls s).mem = s.mem := by simp [adoptInstalls]
@[simp] theorem adoptInstalls_host (s : State) :
    (adoptInstalls s).host = s.host := by simp [adoptInstalls]
@[simp] theorem adoptInstalls_journal (s : State) :
    (adoptInstalls s).journal = s.journal := by simp [adoptInstalls]
@[simp] theorem adoptInstalls_tracker (s : State) :
    (adoptInstalls s).tracker = s.tracker := by simp [adoptInstalls]
@[simp] theorem adoptInstalls_engine (s : State) :
    (adoptInstalls s).engine = s.engine := by simp [adoptInstalls]
@[simp] theorem adoptInstalls_command (s : State) :
    (adoptInstalls s).command = s.command := by simp [adoptInstalls]
@[simp] theorem adoptInstalls_warning (s : State) :
    (adoptInstalls s).warning = s.warning := by simp [adoptInstalls]
@[simp] theorem adoptInstalls_resetting (s : State) :
    (adoptInstalls s).resetting = s.resetting := by simp [adoptInstalls]
@[simp] theorem adoptInstalls_free (s : State) :
    (adoptInstalls s).free = s.free := by simp [adoptInstalls]
@[simp] theorem adoptInstalls_pending (s : State) :
    (adoptInstalls s).pending = s.pending := by simp [adoptInstalls]

@[simp] theorem epochAdvanceCompletes_mem (s : State) (slot : HeaderSlot) (epoch : Long) (g : Geometry) :
    (epochAdvanceCompletes s slot epoch g).mem = s.mem := by
  unfold epochAdvanceCompletes; dsimp only; (repeat' split) <;> simp
@[simp] theorem epochAdvanceCompletes_command (s : State) (slot : HeaderSlot) (epoch : Long) (g : Geometry) :
    (epochAdvanceCompletes s slot epoch g).command = s.command := by
  unfold epochAdvanceCompletes; dsimp only; (repeat' split) <;> simp
@[simp] theorem epochAdvanceCompletes_warning (s : State) (slot : HeaderSlot) (epoch : Long) (g : Geometry) :
    (epochAdvanceCompletes s slot epoch g).warning = s.warning := by
  unfold epochAdvanceCompletes; dsimp only; (repeat' split) <;> simp
@[simp] theorem epochAdvanceCompletes_resetting (s : State) (slot : HeaderSlot) (epoch : Long) (g : Geometry) :
    (epochAdvanceCompletes s slot epoch g).resetting = s.resetting := by
  unfold epochAdvanceCompletes; dsimp only; (repeat' split) <;> simp
@[simp] theorem epochAdvanceCompletes_pending (s : State) (slot : HeaderSlot) (epoch : Long) (g : Geometry) :
    (epochAdvanceCompletes s slot epoch g).pending = s.pending := by
  unfold epochAdvanceCompletes; dsimp only; (repeat' split) <;> simp

@[simp] theorem loadHeader_mem (s : State) (slot : HeaderSlot) (h : Header) :
    (loadHeader s slot h).mem = s.mem := by simp [loadHeader]
@[simp] theorem loadHeader_host (s : State) (slot : HeaderSlot) (h : Header) :
    (loadHeader s slot h).host = s.host := by simp [loadHeader]
@[simp] theorem loadHeader_decoder (s : State) (slot : HeaderSlot) (h : Header) :
    (loadHeader s slot h).decoder = s.decoder := by simp [loadHeader]
@[simp] theorem loadHeader_txn (s : State) (slot : HeaderSlot) (h : Header) :
    (loadHeader s slot h).txn = s.txn := by simp [loadHeader]
@[simp] theorem loadHeader_tracker (s : State) (slot : HeaderSlot) (h : Header) :
    (loadHeader s slot h).tracker = s.tracker := by simp [loadHeader]
@[simp] theorem loadHeader_engine (s : State) (slot : HeaderSlot) (h : Header) :
    (loadHeader s slot h).engine = s.engine := by simp [loadHeader]
@[simp] theorem loadHeader_command (s : State) (slot : HeaderSlot) (h : Header) :
    (loadHeader s slot h).command = s.command := by simp [loadHeader]
@[simp] theorem loadHeader_warning (s : State) (slot : HeaderSlot) (h : Header) :
    (loadHeader s slot h).warning = s.warning := by simp [loadHeader]
@[simp] theorem loadHeader_resetting (s : State) (slot : HeaderSlot) (h : Header) :
    (loadHeader s slot h).resetting = s.resetting := by simp [loadHeader]
@[simp] theorem loadHeader_free (s : State) (slot : HeaderSlot) (h : Header) :
    (loadHeader s slot h).free = s.free := by simp [loadHeader]
@[simp] theorem loadHeader_pending (s : State) (slot : HeaderSlot) (h : Header) :
    (loadHeader s slot h).pending = s.pending := by simp [loadHeader]

@[simp] theorem headerSlotsRead_mem (s : State) (l : List Byte) :
    (headerSlotsRead s l).mem = s.mem := by
  unfold headerSlotsRead; dsimp only; (repeat' split) <;> simp
@[simp] theorem headerSlotsRead_host (s : State) (l : List Byte) :
    (headerSlotsRead s l).host = s.host := by
  unfold headerSlotsRead; dsimp only; (repeat' split) <;> simp
@[simp] theorem headerSlotsRead_decoder (s : State) (l : List Byte) :
    (headerSlotsRead s l).decoder = s.decoder := by
  unfold headerSlotsRead; dsimp only; (repeat' split) <;> simp
@[simp] theorem headerSlotsRead_tracker (s : State) (l : List Byte) :
    (headerSlotsRead s l).tracker = s.tracker := by
  unfold headerSlotsRead; dsimp only; (repeat' split) <;> simp
@[simp] theorem headerSlotsRead_engine (s : State) (l : List Byte) :
    (headerSlotsRead s l).engine = s.engine := by
  unfold headerSlotsRead; dsimp only; (repeat' split) <;> simp
@[simp] theorem headerSlotsRead_command (s : State) (l : List Byte) :
    (headerSlotsRead s l).command = s.command := by
  unfold headerSlotsRead; dsimp only; (repeat' split) <;> simp
@[simp] theorem headerSlotsRead_warning (s : State) (l : List Byte) :
    (headerSlotsRead s l).warning = s.warning := by
  unfold headerSlotsRead; dsimp only; (repeat' split) <;> simp
@[simp] theorem headerSlotsRead_resetting (s : State) (l : List Byte) :
    (headerSlotsRead s l).resetting = s.resetting := by
  unfold headerSlotsRead; dsimp only; (repeat' split) <;> simp
@[simp] theorem headerSlotsRead_free (s : State) (l : List Byte) :
    (headerSlotsRead s l).free = s.free := by
  unfold headerSlotsRead; dsimp only; (repeat' split) <;> simp
@[simp] theorem headerSlotsRead_pending (s : State) (l : List Byte) :
    (headerSlotsRead s l).pending = s.pending := by
  unfold headerSlotsRead; dsimp only; (repeat' split) <;> simp

@[simp] theorem loadingEnds_mem (s : State) (c : Configuration) :
    (loadingEnds s c).mem = s.mem := by simp [loadingEnds]
@[simp] theorem loadingEnds_host (s : State) (c : Configuration) :
    (loadingEnds s c).host = s.host := by simp [loadingEnds]
@[simp] theorem loadingEnds_journal (s : State) (c : Configuration) :
    (loadingEnds s c).journal = s.journal := by simp [loadingEnds]
@[simp] theorem loadingEnds_tracker (s : State) (c : Configuration) :
    (loadingEnds s c).tracker = s.tracker := by simp [loadingEnds]
@[simp] theorem loadingEnds_engine (s : State) (c : Configuration) :
    (loadingEnds s c).engine = s.engine := by simp [loadingEnds]
@[simp] theorem loadingEnds_command (s : State) (c : Configuration) :
    (loadingEnds s c).command = s.command := by simp [loadingEnds]
@[simp] theorem loadingEnds_warning (s : State) (c : Configuration) :
    (loadingEnds s c).warning = s.warning := by simp [loadingEnds]
@[simp] theorem loadingEnds_resetting (s : State) (c : Configuration) :
    (loadingEnds s c).resetting = s.resetting := by simp [loadingEnds]
@[simp] theorem loadingEnds_free (s : State) (c : Configuration) :
    (loadingEnds s c).free = s.free := by simp [loadingEnds]
@[simp] theorem loadingEnds_pending (s : State) (c : Configuration) :
    (loadingEnds s c).pending = s.pending := by simp [loadingEnds]

@[simp] theorem noConfigEnds_mem (s : State) :
    (noConfigEnds s).mem = s.mem := by simp [noConfigEnds]
@[simp] theorem noConfigEnds_host (s : State) :
    (noConfigEnds s).host = s.host := by simp [noConfigEnds]
@[simp] theorem noConfigEnds_journal (s : State) :
    (noConfigEnds s).journal = s.journal := by simp [noConfigEnds]
@[simp] theorem noConfigEnds_tracker (s : State) :
    (noConfigEnds s).tracker = s.tracker := by simp [noConfigEnds]
@[simp] theorem noConfigEnds_engine (s : State) :
    (noConfigEnds s).engine = s.engine := by simp [noConfigEnds]
@[simp] theorem noConfigEnds_command (s : State) :
    (noConfigEnds s).command = s.command := by simp [noConfigEnds]
@[simp] theorem noConfigEnds_warning (s : State) :
    (noConfigEnds s).warning = s.warning := by simp [noConfigEnds]
@[simp] theorem noConfigEnds_resetting (s : State) :
    (noConfigEnds s).resetting = s.resetting := by simp [noConfigEnds]
@[simp] theorem noConfigEnds_free (s : State) :
    (noConfigEnds s).free = s.free := by simp [noConfigEnds]
@[simp] theorem noConfigEnds_pending (s : State) :
    (noConfigEnds s).pending = s.pending := by simp [noConfigEnds]

@[simp] theorem adoptFails_mem (s : State) (r : ConfigReason) :
    (adoptFails s r).mem = s.mem := by simp [adoptFails]
@[simp] theorem adoptFails_host (s : State) (r : ConfigReason) :
    (adoptFails s r).host = s.host := by simp [adoptFails]
@[simp] theorem adoptFails_decoder (s : State) (r : ConfigReason) :
    (adoptFails s r).decoder = s.decoder := by simp [adoptFails]
@[simp] theorem adoptFails_journal (s : State) (r : ConfigReason) :
    (adoptFails s r).journal = s.journal := by simp [adoptFails]
@[simp] theorem adoptFails_tracker (s : State) (r : ConfigReason) :
    (adoptFails s r).tracker = s.tracker := by simp [adoptFails]
@[simp] theorem adoptFails_engine (s : State) (r : ConfigReason) :
    (adoptFails s r).engine = s.engine := by simp [adoptFails]
@[simp] theorem adoptFails_command (s : State) (r : ConfigReason) :
    (adoptFails s r).command = s.command := by simp [adoptFails]
@[simp] theorem adoptFails_warning (s : State) (r : ConfigReason) :
    (adoptFails s r).warning = s.warning := by simp [adoptFails]
@[simp] theorem adoptFails_resetting (s : State) (r : ConfigReason) :
    (adoptFails s r).resetting = s.resetting := by simp [adoptFails]
@[simp] theorem adoptFails_free (s : State) (r : ConfigReason) :
    (adoptFails s r).free = s.free := by simp [adoptFails]
@[simp] theorem adoptFails_pending (s : State) (r : ConfigReason) :
    (adoptFails s r).pending = s.pending := by simp [adoptFails]

@[simp] theorem configSlotRead_mem (s : State) (slot : ConfigSlot) :
    (configSlotRead s slot).mem = s.mem := by
  unfold configSlotRead; (repeat' split) <;> simp
@[simp] theorem configSlotRead_host (s : State) (slot : ConfigSlot) :
    (configSlotRead s slot).host = s.host := by
  unfold configSlotRead; (repeat' split) <;> simp
@[simp] theorem configSlotRead_journal (s : State) (slot : ConfigSlot) :
    (configSlotRead s slot).journal = s.journal := by
  unfold configSlotRead; (repeat' split) <;> simp
@[simp] theorem configSlotRead_tracker (s : State) (slot : ConfigSlot) :
    (configSlotRead s slot).tracker = s.tracker := by
  unfold configSlotRead; (repeat' split) <;> simp
@[simp] theorem configSlotRead_engine (s : State) (slot : ConfigSlot) :
    (configSlotRead s slot).engine = s.engine := by
  unfold configSlotRead; (repeat' split) <;> simp
@[simp] theorem configSlotRead_command (s : State) (slot : ConfigSlot) :
    (configSlotRead s slot).command = s.command := by
  unfold configSlotRead; (repeat' split) <;> simp
@[simp] theorem configSlotRead_warning (s : State) (slot : ConfigSlot) :
    (configSlotRead s slot).warning = s.warning := by
  unfold configSlotRead; (repeat' split) <;> simp
@[simp] theorem configSlotRead_resetting (s : State) (slot : ConfigSlot) :
    (configSlotRead s slot).resetting = s.resetting := by
  unfold configSlotRead; (repeat' split) <;> simp
@[simp] theorem configSlotRead_free (s : State) (slot : ConfigSlot) :
    (configSlotRead s slot).free = s.free := by
  unfold configSlotRead; (repeat' split) <;> simp
@[simp] theorem configSlotRead_pending (s : State) (slot : ConfigSlot) :
    (configSlotRead s slot).pending = s.pending := by
  unfold configSlotRead; (repeat' split) <;> simp

@[simp] theorem configSlotWritten_mem (s : State) (x0 : ConfigSlot) :
    (configSlotWritten s x0).mem = s.mem := by
  unfold configSlotWritten; (repeat' split) <;> simp
@[simp] theorem configSlotWritten_host (s : State) (x0 : ConfigSlot) :
    (configSlotWritten s x0).host = s.host := by
  unfold configSlotWritten; (repeat' split) <;> simp
@[simp] theorem configSlotWritten_decoder (s : State) (x0 : ConfigSlot) :
    (configSlotWritten s x0).decoder = s.decoder := by
  unfold configSlotWritten; (repeat' split) <;> simp
@[simp] theorem configSlotWritten_txn (s : State) (x0 : ConfigSlot) :
    (configSlotWritten s x0).txn = s.txn := by
  unfold configSlotWritten; (repeat' split) <;> simp
@[simp] theorem configSlotWritten_journal (s : State) (x0 : ConfigSlot) :
    (configSlotWritten s x0).journal = s.journal := by
  unfold configSlotWritten; (repeat' split) <;> simp
@[simp] theorem configSlotWritten_tracker (s : State) (x0 : ConfigSlot) :
    (configSlotWritten s x0).tracker = s.tracker := by
  unfold configSlotWritten; (repeat' split) <;> simp
@[simp] theorem configSlotWritten_engine (s : State) (x0 : ConfigSlot) :
    (configSlotWritten s x0).engine = s.engine := by
  unfold configSlotWritten; (repeat' split) <;> simp
@[simp] theorem configSlotWritten_command (s : State) (x0 : ConfigSlot) :
    (configSlotWritten s x0).command = s.command := by
  unfold configSlotWritten; (repeat' split) <;> simp
@[simp] theorem configSlotWritten_warning (s : State) (x0 : ConfigSlot) :
    (configSlotWritten s x0).warning = s.warning := by
  unfold configSlotWritten; (repeat' split) <;> simp
@[simp] theorem configSlotWritten_resetting (s : State) (x0 : ConfigSlot) :
    (configSlotWritten s x0).resetting = s.resetting := by
  unfold configSlotWritten; (repeat' split) <;> simp
@[simp] theorem configSlotWritten_free (s : State) (x0 : ConfigSlot) :
    (configSlotWritten s x0).free = s.free := by
  unfold configSlotWritten; (repeat' split) <;> simp
@[simp] theorem configSlotWritten_pending (s : State) (x0 : ConfigSlot) :
    (configSlotWritten s x0).pending = s.pending := by
  unfold configSlotWritten; (repeat' split) <;> simp

@[simp] theorem enterRestoring_mem (s : State) :
    (enterRestoring s).mem = s.mem := by simp [enterRestoring]
@[simp] theorem enterRestoring_decoder (s : State) :
    (enterRestoring s).decoder = s.decoder := by simp [enterRestoring]
@[simp] theorem enterRestoring_command (s : State) :
    (enterRestoring s).command = s.command := by simp [enterRestoring]
@[simp] theorem enterRestoring_warning (s : State) :
    (enterRestoring s).warning = s.warning := by simp [enterRestoring]
@[simp] theorem enterRestoring_resetting (s : State) :
    (enterRestoring s).resetting = s.resetting := by simp [enterRestoring]
@[simp] theorem enterRestoring_pending (s : State) :
    (enterRestoring s).pending = s.pending := by simp [enterRestoring]

@[simp] theorem scanEnds_mem (s : State) (n : Nat) : (scanEnds s n).mem = s.mem := by
  unfold scanEnds; (repeat' split) <;> simp
@[simp] theorem scanEnds_decoder (s : State) (n : Nat) : (scanEnds s n).decoder = s.decoder := by
  unfold scanEnds; (repeat' split) <;> simp
@[simp] theorem scanEnds_command (s : State) (n : Nat) : (scanEnds s n).command = s.command := by
  unfold scanEnds; (repeat' split) <;> simp
@[simp] theorem scanEnds_warning (s : State) (n : Nat) : (scanEnds s n).warning = s.warning := by
  unfold scanEnds; (repeat' split) <;> simp
@[simp] theorem scanEnds_resetting (s : State) (n : Nat) :
    (scanEnds s n).resetting = s.resetting := by
  unfold scanEnds; (repeat' split) <;> simp
@[simp] theorem scanEnds_pending (s : State) (n : Nat) : (scanEnds s n).pending = s.pending := by
  unfold scanEnds; (repeat' split) <;> simp

@[simp] theorem scanAccepts_mem (s : State) (buf : List Byte) :
    (scanAccepts s buf).mem = s.mem := by simp [scanAccepts]
@[simp] theorem scanAccepts_host (s : State) (buf : List Byte) :
    (scanAccepts s buf).host = s.host := by simp [scanAccepts]
@[simp] theorem scanAccepts_decoder (s : State) (buf : List Byte) :
    (scanAccepts s buf).decoder = s.decoder := by simp [scanAccepts]
@[simp] theorem scanAccepts_txn (s : State) (buf : List Byte) :
    (scanAccepts s buf).txn = s.txn := by simp [scanAccepts]
@[simp] theorem scanAccepts_journal (s : State) (buf : List Byte) :
    (scanAccepts s buf).journal = s.journal := by simp [scanAccepts]
@[simp] theorem scanAccepts_tracker (s : State) (buf : List Byte) :
    (scanAccepts s buf).tracker = s.tracker := by simp [scanAccepts]
@[simp] theorem scanAccepts_engine (s : State) (buf : List Byte) :
    (scanAccepts s buf).engine = s.engine := by simp [scanAccepts]
@[simp] theorem scanAccepts_port (s : State) (buf : List Byte) :
    (scanAccepts s buf).port = s.port := by simp [scanAccepts]
@[simp] theorem scanAccepts_command (s : State) (buf : List Byte) :
    (scanAccepts s buf).command = s.command := by simp [scanAccepts]
@[simp] theorem scanAccepts_status (s : State) (buf : List Byte) :
    (scanAccepts s buf).status = s.status := by simp [scanAccepts]
@[simp] theorem scanAccepts_config (s : State) (buf : List Byte) :
    (scanAccepts s buf).config = s.config := by simp [scanAccepts]
@[simp] theorem scanAccepts_warning (s : State) (buf : List Byte) :
    (scanAccepts s buf).warning = s.warning := by simp [scanAccepts]
@[simp] theorem scanAccepts_resetting (s : State) (buf : List Byte) :
    (scanAccepts s buf).resetting = s.resetting := by simp [scanAccepts]
@[simp] theorem scanAccepts_free (s : State) (buf : List Byte) :
    (scanAccepts s buf).free = s.free := by simp [scanAccepts]
@[simp] theorem scanAccepts_pending (s : State) (buf : List Byte) :
    (scanAccepts s buf).pending = s.pending := by simp [scanAccepts]

@[simp] theorem startupFaults_mem (s : State) :
    (startupFaults s).mem = s.mem := by simp [startupFaults]
@[simp] theorem startupFaults_host (s : State) :
    (startupFaults s).host = s.host := by simp [startupFaults]
@[simp] theorem startupFaults_decoder (s : State) :
    (startupFaults s).decoder = s.decoder := by simp [startupFaults]
@[simp] theorem startupFaults_journal (s : State) :
    (startupFaults s).journal = s.journal := by simp [startupFaults]
@[simp] theorem startupFaults_tracker (s : State) :
    (startupFaults s).tracker = s.tracker := by simp [startupFaults]
@[simp] theorem startupFaults_engine (s : State) :
    (startupFaults s).engine = s.engine := by simp [startupFaults]
@[simp] theorem startupFaults_command (s : State) :
    (startupFaults s).command = s.command := by simp [startupFaults]
@[simp] theorem startupFaults_warning (s : State) :
    (startupFaults s).warning = s.warning := by simp [startupFaults]
@[simp] theorem startupFaults_resetting (s : State) :
    (startupFaults s).resetting = s.resetting := by simp [startupFaults]
@[simp] theorem startupFaults_free (s : State) :
    (startupFaults s).free = s.free := by simp [startupFaults]
@[simp] theorem startupFaults_pending (s : State) :
    (startupFaults s).pending = s.pending := by simp [startupFaults]

@[simp] theorem abortFaults_mem (s : State) (r : RestoreReason) :
    (abortFaults s r).mem = s.mem := by simp [abortFaults]
@[simp] theorem abortFaults_decoder (s : State) (r : RestoreReason) :
    (abortFaults s r).decoder = s.decoder := by simp [abortFaults]
@[simp] theorem abortFaults_tracker (s : State) (r : RestoreReason) :
    (abortFaults s r).tracker = s.tracker := by simp [abortFaults]
@[simp] theorem abortFaults_engine (s : State) (r : RestoreReason) :
    (abortFaults s r).engine = s.engine := by simp [abortFaults]
@[simp] theorem abortFaults_command (s : State) (r : RestoreReason) :
    (abortFaults s r).command = s.command := by simp [abortFaults]
@[simp] theorem abortFaults_warning (s : State) (r : RestoreReason) :
    (abortFaults s r).warning = s.warning := by simp [abortFaults]
@[simp] theorem abortFaults_resetting (s : State) (r : RestoreReason) :
    (abortFaults s r).resetting = s.resetting := by simp [abortFaults]
@[simp] theorem abortFaults_pending (s : State) (r : RestoreReason) :
    (abortFaults s r).pending = s.pending := by simp [abortFaults]

@[simp] theorem restoreFault_mem (s : State) (r : RestoreReason) (p : Nat) :
    (restoreFault s r p).mem = s.mem := by
  unfold restoreFault; dsimp only; (repeat' split) <;> simp
@[simp] theorem restoreFault_decoder (s : State) (r : RestoreReason) (p : Nat) :
    (restoreFault s r p).decoder = s.decoder := by
  unfold restoreFault; dsimp only; (repeat' split) <;> simp
@[simp] theorem restoreFault_tracker (s : State) (r : RestoreReason) (p : Nat) :
    (restoreFault s r p).tracker = s.tracker := by
  unfold restoreFault; dsimp only; (repeat' split) <;> simp
@[simp] theorem restoreFault_command (s : State) (r : RestoreReason) (p : Nat) :
    (restoreFault s r p).command = s.command := by
  unfold restoreFault; dsimp only; (repeat' split) <;> simp
@[simp] theorem restoreFault_warning (s : State) (r : RestoreReason) (p : Nat) :
    (restoreFault s r p).warning = s.warning := by
  unfold restoreFault; dsimp only; (repeat' split) <;> simp
@[simp] theorem restoreFault_resetting (s : State) (r : RestoreReason) (p : Nat) :
    (restoreFault s r p).resetting = s.resetting := by
  unfold restoreFault; dsimp only; (repeat' split) <;> simp
@[simp] theorem restoreFault_pending (s : State) (r : RestoreReason) (p : Nat) :
    (restoreFault s r p).pending = s.pending := by
  unfold restoreFault; dsimp only; (repeat' split) <;> simp

@[simp] theorem recordRead_mem (s : State) : (recordRead s).mem = s.mem := by
  unfold recordRead; dsimp only; (repeat' split) <;> simp
@[simp] theorem recordRead_decoder (s : State) : (recordRead s).decoder = s.decoder := by
  unfold recordRead; dsimp only; (repeat' split) <;> simp
@[simp] theorem recordRead_tracker (s : State) : (recordRead s).tracker = s.tracker := by
  unfold recordRead; dsimp only; (repeat' split) <;> simp
@[simp] theorem recordRead_command (s : State) : (recordRead s).command = s.command := by
  unfold recordRead; dsimp only; (repeat' split) <;> simp
@[simp] theorem recordRead_warning (s : State) : (recordRead s).warning = s.warning := by
  unfold recordRead; dsimp only; (repeat' split) <;> simp
@[simp] theorem recordRead_resetting (s : State) : (recordRead s).resetting = s.resetting := by
  unfold recordRead; dsimp only; (repeat' split) <;> simp
@[simp] theorem recordRead_pending (s : State) : (recordRead s).pending = s.pending := by
  unfold recordRead; dsimp only; (repeat' split) <;> simp

@[simp] theorem stepCompletes_mem (s : State) : (stepCompletes s).mem = s.mem := by
  unfold stepCompletes; dsimp only; (repeat' split) <;> simp
@[simp] theorem stepCompletes_decoder (s : State) : (stepCompletes s).decoder = s.decoder := by
  unfold stepCompletes; dsimp only; (repeat' split) <;> simp
@[simp] theorem stepCompletes_command (s : State) : (stepCompletes s).command = s.command := by
  unfold stepCompletes; dsimp only; (repeat' split) <;> simp
@[simp] theorem stepCompletes_warning (s : State) : (stepCompletes s).warning = s.warning := by
  unfold stepCompletes; dsimp only; (repeat' split) <;> simp
@[simp] theorem stepCompletes_resetting (s : State) :
    (stepCompletes s).resetting = s.resetting := by
  unfold stepCompletes; dsimp only; (repeat' split) <;> simp
@[simp] theorem stepCompletes_pending (s : State) : (stepCompletes s).pending = s.pending := by
  unfold stepCompletes; dsimp only; (repeat' split) <;> simp

end Sys2Proof.Machine
end

