-- ==== Sys2Proof/Laws/Memory.lean ====
section
/-! SUPPORT. The guarded memory: a read after a write, and the canonical form, which every memory
operation keeps. -/

-- One declaration at a time: the package as one text then needs few threads.
set_option Elab.async false

namespace Sys2Proof.Machine

@[simp] theorem Memory.read_nil (a : Nat) : Memory.read [] a = freshByte := rfl

/-- A write leaves every other address as it was. -/
theorem Memory.read_write_other (m : Memory) (a b : Nat) (v : Byte) (h : a ≠ b) :
    (m.write a v).read b = m.read b := by
  induction m with
  | nil => unfold Memory.write; split <;> simp [Memory.read, h]
  | cons e rest ih =>
    obtain ⟨k, w⟩ := e
    unfold Memory.write
    split
    · split <;> simp [Memory.read, h]
    · split
      · subst_vars; split <;> simp [Memory.read, h]
      · simp [Memory.read, ih]

/-- The canonical form above a bound holds above every lower bound. -/
theorem Memory.wfFrom_mono {lo hi : Nat} {m : Memory} (h : Memory.wfFrom hi m = true) (hle : lo ≤ hi) :
    Memory.wfFrom lo m = true := by
  cases m with
  | nil => rfl
  | cons e rest => obtain ⟨k, w⟩ := e; simp_all [Memory.wfFrom]; omega

/-- An address below every entry of a canonical memory reads as a fresh byte. -/
theorem Memory.read_below {lo a : Nat} {m : Memory} (h : Memory.wfFrom lo m = true) (ha : a < lo) :
    m.read a = freshByte := by
  induction m generalizing lo with
  | nil => rfl
  | cons e rest ih =>
    obtain ⟨k, w⟩ := e
    simp only [Memory.wfFrom, Bool.and_eq_true, decide_eq_true_eq, bne_iff_ne] at h
    have hk : k ≠ a := by omega
    simp [Memory.read, hk]
    exact ih h.2 (by omega)

/-- In a canonical memory a read after a write gives the byte written. -/
theorem Memory.read_write_same {lo : Nat} (m : Memory) (a : Nat) (v : Byte)
    (h : Memory.wfFrom lo m = true) : (m.write a v).read a = v := by
  induction m generalizing lo with
  | nil => unfold Memory.write; split <;> simp_all [Memory.read]
  | cons e rest ih =>
    obtain ⟨k, w⟩ := e
    have h' := h
    simp only [Memory.wfFrom, Bool.and_eq_true, decide_eq_true_eq, bne_iff_ne] at h
    unfold Memory.write
    split
    · rename_i hlt
      have hk : k ≠ a := by omega
      split
      · simp [Memory.read, *]; exact Memory.read_below h.2 (by omega)
      · simp [Memory.read]
    · split
      · subst_vars
        split
        · rename_i hv; subst hv; exact Memory.read_below h.2 (by omega)
        · simp [Memory.read]
      · rename_i hne
        have hk : k ≠ a := by omega
        simp [Memory.read, hk]; exact ih h.2

/-- A write keeps the canonical form above a bound that the written address respects. -/
theorem Memory.wfFrom_write {lo : Nat} (m : Memory) (a : Nat) (v : Byte)
    (h : Memory.wfFrom lo m = true) (ha : lo ≤ a) : Memory.wfFrom lo (m.write a v) = true := by
  induction m generalizing lo with
  | nil => unfold Memory.write; split <;> simp_all [Memory.wfFrom]
  | cons e rest ih =>
    obtain ⟨k, w⟩ := e
    have h' := h
    simp only [Memory.wfFrom, Bool.and_eq_true, decide_eq_true_eq, bne_iff_ne] at h
    unfold Memory.write
    split
    · split
      · exact h'
      · simp_all [Memory.wfFrom]
    · split
      · split
        · exact Memory.wfFrom_mono h.2 (by omega)
        · simp_all [Memory.wfFrom]
      · simp only [Memory.wfFrom, Bool.and_eq_true, decide_eq_true_eq, bne_iff_ne]
        exact ⟨h.1, ih h.2 (by omega)⟩

/-- A write keeps the canonical form. -/
theorem Memory.wf_write (m : Memory) (a : Nat) (v : Byte) (h : m.wf = true) :
    (m.write a v).wf = true := Memory.wfFrom_write m a v h (Nat.zero_le a)

/-- The memory after reset is in canonical form. -/
theorem State.reset_mem_wf : State.reset.mem.wf = true := rfl

end Sys2Proof.Machine
end

