-- ==== Sys2Proof/Laws/Raise.lean ====
section
/-! SUPPORT. What a raise leaves unchanged in the status unit (R151). -/

-- One declaration at a time: the package as one text then needs few threads.
set_option Elab.async false

namespace Sys2Proof.Machine

@[simp] theorem takeRaise_refused (st : Status) (k : EventKind) (d : EventDetail) (a : Option Nat) :
    (takeRaise st k d a).refused = st.refused := by unfold takeRaise; (repeat' split) <;> rfl

@[simp] theorem takeRaise_expired (st : Status) (k : EventKind) (d : EventDetail) (a : Option Nat) :
    (takeRaise st k d a).expired = st.expired := by unfold takeRaise; (repeat' split) <;> rfl

@[simp] theorem takeRaise_startFaults (st : Status) (k : EventKind) (d : EventDetail) (a : Option Nat) :
    (takeRaise st k d a).startFaults = st.startFaults := by unfold takeRaise; (repeat' split) <;> rfl

@[simp] theorem takeRaise_snapshot (st : Status) (k : EventKind) (d : EventDetail) (a : Option Nat) :
    (takeRaise st k d a).snapshot = st.snapshot := by unfold takeRaise; (repeat' split) <;> rfl

@[simp] theorem takeRaise_attention (st : Status) (k : EventKind) (d : EventDetail) (a : Option Nat) :
    (takeRaise st k d a).attention = st.attention := by unfold takeRaise; (repeat' split) <;> rfl

@[simp] theorem takeRaise_owed (st : Status) (k : EventKind) (d : EventDetail) (a : Option Nat) :
    (takeRaise st k d a).owed = st.owed := by unfold takeRaise; (repeat' split) <;> rfl

end Sys2Proof.Machine
end

