-- ==== Sys2Proof/Laws/OpsFields.lean ====
section
/-! SUPPORT. What each shared operation of Machine/Ops.lean leaves unchanged within the blocks it changes. -/

-- One declaration at a time: the package as one text then needs few threads.
set_option Elab.async false

namespace Sys2Proof.Machine

@[simp] theorem State.claimHost_port_inFlight (s : State) :
    (State.claimHost s).port.inFlight = s.port.inFlight := by simp [State.claimHost]
@[simp] theorem State.claimHost_port_yieldLimit (s : State) :
    (State.claimHost s).port.yieldLimit = s.port.yieldLimit := by simp [State.claimHost]
@[simp] theorem State.claimHost_port_strap (s : State) :
    (State.claimHost s).port.strap = s.port.strap := by simp [State.claimHost]
@[simp] theorem State.claimHost_port_yieldControl (s : State) :
    (State.claimHost s).port.yieldControl = s.port.yieldControl := by simp [State.claimHost]
@[simp] theorem State.claimHost_port_yieldEngine (s : State) :
    (State.claimHost s).port.yieldEngine = s.port.yieldEngine := by simp [State.claimHost]
@[simp] theorem State.claimHost_port_claimControl (s : State) :
    (State.claimHost s).port.claimControl = s.port.claimControl := by simp [State.claimHost]
@[simp] theorem State.claimHost_port_claimEngine (s : State) :
    (State.claimHost s).port.claimEngine = s.port.claimEngine := by simp [State.claimHost]

@[simp] theorem State.claimControl_port_inFlight (s : State) :
    (State.claimControl s).port.inFlight = s.port.inFlight := by simp [State.claimControl]
@[simp] theorem State.claimControl_port_yieldLimit (s : State) :
    (State.claimControl s).port.yieldLimit = s.port.yieldLimit := by simp [State.claimControl]
@[simp] theorem State.claimControl_port_strap (s : State) :
    (State.claimControl s).port.strap = s.port.strap := by simp [State.claimControl]
@[simp] theorem State.claimControl_port_yieldControl (s : State) :
    (State.claimControl s).port.yieldControl = s.port.yieldControl := by simp [State.claimControl]
@[simp] theorem State.claimControl_port_yieldEngine (s : State) :
    (State.claimControl s).port.yieldEngine = s.port.yieldEngine := by simp [State.claimControl]
@[simp] theorem State.claimControl_port_claimHost (s : State) :
    (State.claimControl s).port.claimHost = s.port.claimHost := by simp [State.claimControl]
@[simp] theorem State.claimControl_port_claimEngine (s : State) :
    (State.claimControl s).port.claimEngine = s.port.claimEngine := by simp [State.claimControl]

@[simp] theorem State.claimEngine_port_inFlight (s : State) :
    (State.claimEngine s).port.inFlight = s.port.inFlight := by simp [State.claimEngine]
@[simp] theorem State.claimEngine_port_yieldLimit (s : State) :
    (State.claimEngine s).port.yieldLimit = s.port.yieldLimit := by simp [State.claimEngine]
@[simp] theorem State.claimEngine_port_strap (s : State) :
    (State.claimEngine s).port.strap = s.port.strap := by simp [State.claimEngine]
@[simp] theorem State.claimEngine_port_yieldControl (s : State) :
    (State.claimEngine s).port.yieldControl = s.port.yieldControl := by simp [State.claimEngine]
@[simp] theorem State.claimEngine_port_yieldEngine (s : State) :
    (State.claimEngine s).port.yieldEngine = s.port.yieldEngine := by simp [State.claimEngine]
@[simp] theorem State.claimEngine_port_claimHost (s : State) :
    (State.claimEngine s).port.claimHost = s.port.claimHost := by simp [State.claimEngine]
@[simp] theorem State.claimEngine_port_claimControl (s : State) :
    (State.claimEngine s).port.claimControl = s.port.claimControl := by simp [State.claimEngine]

@[simp] theorem State.withdrawHost_port_inFlight (s : State) :
    (State.withdrawHost s).port.inFlight = s.port.inFlight := by simp [State.withdrawHost]
@[simp] theorem State.withdrawHost_port_yieldLimit (s : State) :
    (State.withdrawHost s).port.yieldLimit = s.port.yieldLimit := by simp [State.withdrawHost]
@[simp] theorem State.withdrawHost_port_strap (s : State) :
    (State.withdrawHost s).port.strap = s.port.strap := by simp [State.withdrawHost]
@[simp] theorem State.withdrawHost_port_yieldControl (s : State) :
    (State.withdrawHost s).port.yieldControl = s.port.yieldControl := by simp [State.withdrawHost]
@[simp] theorem State.withdrawHost_port_yieldEngine (s : State) :
    (State.withdrawHost s).port.yieldEngine = s.port.yieldEngine := by simp [State.withdrawHost]
@[simp] theorem State.withdrawHost_port_claimControl (s : State) :
    (State.withdrawHost s).port.claimControl = s.port.claimControl := by simp [State.withdrawHost]
@[simp] theorem State.withdrawHost_port_claimEngine (s : State) :
    (State.withdrawHost s).port.claimEngine = s.port.claimEngine := by simp [State.withdrawHost]

@[simp] theorem State.withdrawEngine_port_inFlight (s : State) :
    (State.withdrawEngine s).port.inFlight = s.port.inFlight := by simp [State.withdrawEngine]
@[simp] theorem State.withdrawEngine_port_yieldLimit (s : State) :
    (State.withdrawEngine s).port.yieldLimit = s.port.yieldLimit := by simp [State.withdrawEngine]
@[simp] theorem State.withdrawEngine_port_strap (s : State) :
    (State.withdrawEngine s).port.strap = s.port.strap := by simp [State.withdrawEngine]
@[simp] theorem State.withdrawEngine_port_yieldControl (s : State) :
    (State.withdrawEngine s).port.yieldControl = s.port.yieldControl := by simp [State.withdrawEngine]
@[simp] theorem State.withdrawEngine_port_claimHost (s : State) :
    (State.withdrawEngine s).port.claimHost = s.port.claimHost := by simp [State.withdrawEngine]
@[simp] theorem State.withdrawEngine_port_claimControl (s : State) :
    (State.withdrawEngine s).port.claimControl = s.port.claimControl := by simp [State.withdrawEngine]

@[simp] theorem prepareSequence_status_queue (s : State) (x0 : Sequence) :
    (prepareSequence s x0).status.queue = s.status.queue := by
  unfold prepareSequence; (repeat' split) <;> simp
@[simp] theorem prepareSequence_status_dropped (s : State) (x0 : Sequence) :
    (prepareSequence s x0).status.dropped = s.status.dropped := by
  unfold prepareSequence; (repeat' split) <;> simp
@[simp] theorem prepareSequence_status_refused (s : State) (x0 : Sequence) :
    (prepareSequence s x0).status.refused = s.status.refused := by
  unfold prepareSequence; (repeat' split) <;> simp
@[simp] theorem prepareSequence_status_expired (s : State) (x0 : Sequence) :
    (prepareSequence s x0).status.expired = s.status.expired := by
  unfold prepareSequence; (repeat' split) <;> simp
@[simp] theorem prepareSequence_status_startFaults (s : State) (x0 : Sequence) :
    (prepareSequence s x0).status.startFaults = s.status.startFaults := by
  unfold prepareSequence; (repeat' split) <;> simp
@[simp] theorem prepareSequence_status_snapshot (s : State) (x0 : Sequence) :
    (prepareSequence s x0).status.snapshot = s.status.snapshot := by
  unfold prepareSequence; (repeat' split) <;> simp
@[simp] theorem prepareSequence_status_owed (s : State) (x0 : Sequence) :
    (prepareSequence s x0).status.owed = s.status.owed := by
  unfold prepareSequence; (repeat' split) <;> simp
@[simp] theorem prepareSequence_status_attention (s : State) (x0 : Sequence) :
    (prepareSequence s x0).status.attention = s.status.attention := by
  unfold prepareSequence; (repeat' split) <;> simp
@[simp] theorem prepareSequence_config_loaded (s : State) (x0 : Sequence) :
    (prepareSequence s x0).config.loaded = s.config.loaded := by
  unfold prepareSequence; (repeat' split) <;> simp
@[simp] theorem prepareSequence_config_origin (s : State) (x0 : Sequence) :
    (prepareSequence s x0).config.origin = s.config.origin := by
  unfold prepareSequence; (repeat' split) <;> simp
@[simp] theorem prepareSequence_config_adopting (s : State) (x0 : Sequence) :
    (prepareSequence s x0).config.adopting = s.config.adopting := by
  unfold prepareSequence; (repeat' split) <;> simp
@[simp] theorem prepareSequence_config_buffer (s : State) (x0 : Sequence) :
    (prepareSequence s x0).config.buffer = s.config.buffer := by
  unfold prepareSequence; (repeat' split) <;> simp
@[simp] theorem prepareSequence_config_readWaits (s : State) (x0 : Sequence) :
    (prepareSequence s x0).config.readWaits = s.config.readWaits := by
  unfold prepareSequence; (repeat' split) <;> simp

@[simp] theorem beginSequence_status_queue (s : State) (k : Sequence) :
    (beginSequence s k).status.queue = s.status.queue := by simp [beginSequence]
@[simp] theorem beginSequence_status_dropped (s : State) (k : Sequence) :
    (beginSequence s k).status.dropped = s.status.dropped := by simp [beginSequence]
@[simp] theorem beginSequence_status_refused (s : State) (k : Sequence) :
    (beginSequence s k).status.refused = s.status.refused := by simp [beginSequence]
@[simp] theorem beginSequence_status_expired (s : State) (k : Sequence) :
    (beginSequence s k).status.expired = s.status.expired := by simp [beginSequence]
@[simp] theorem beginSequence_status_startFaults (s : State) (k : Sequence) :
    (beginSequence s k).status.startFaults = s.status.startFaults := by simp [beginSequence]
@[simp] theorem beginSequence_status_snapshot (s : State) (k : Sequence) :
    (beginSequence s k).status.snapshot = s.status.snapshot := by simp [beginSequence]
@[simp] theorem beginSequence_status_owed (s : State) (k : Sequence) :
    (beginSequence s k).status.owed = s.status.owed := by simp [beginSequence]
@[simp] theorem beginSequence_status_attention (s : State) (k : Sequence) :
    (beginSequence s k).status.attention = s.status.attention := by simp [beginSequence]
@[simp] theorem beginSequence_config_loaded (s : State) (k : Sequence) :
    (beginSequence s k).config.loaded = s.config.loaded := by simp [beginSequence]
@[simp] theorem beginSequence_config_origin (s : State) (k : Sequence) :
    (beginSequence s k).config.origin = s.config.origin := by simp [beginSequence]
@[simp] theorem beginSequence_config_adopting (s : State) (k : Sequence) :
    (beginSequence s k).config.adopting = s.config.adopting := by simp [beginSequence]
@[simp] theorem beginSequence_config_buffer (s : State) (k : Sequence) :
    (beginSequence s k).config.buffer = s.config.buffer := by simp [beginSequence]
@[simp] theorem beginSequence_config_readWaits (s : State) (k : Sequence) :
    (beginSequence s k).config.readWaits = s.config.readWaits := by simp [beginSequence]
@[simp] theorem beginSequence_port_inFlight (s : State) (k : Sequence) :
    (beginSequence s k).port.inFlight = s.port.inFlight := by simp [beginSequence]
@[simp] theorem beginSequence_port_yieldLimit (s : State) (k : Sequence) :
    (beginSequence s k).port.yieldLimit = s.port.yieldLimit := by simp [beginSequence]
@[simp] theorem beginSequence_port_strap (s : State) (k : Sequence) :
    (beginSequence s k).port.strap = s.port.strap := by simp [beginSequence]
@[simp] theorem beginSequence_port_yieldControl (s : State) (k : Sequence) :
    (beginSequence s k).port.yieldControl = s.port.yieldControl := by simp [beginSequence]
@[simp] theorem beginSequence_port_yieldEngine (s : State) (k : Sequence) :
    (beginSequence s k).port.yieldEngine = s.port.yieldEngine := by simp [beginSequence]
@[simp] theorem beginSequence_port_claimHost (s : State) (k : Sequence) :
    (beginSequence s k).port.claimHost = s.port.claimHost := by simp [beginSequence]
@[simp] theorem beginSequence_port_claimEngine (s : State) (k : Sequence) :
    (beginSequence s k).port.claimEngine = s.port.claimEngine := by simp [beginSequence]

@[simp] theorem requestSequence_status_queue (s : State) (k : Sequence) :
    (requestSequence s k).status.queue = s.status.queue := by
  unfold requestSequence; (repeat' split) <;> simp
@[simp] theorem requestSequence_status_dropped (s : State) (k : Sequence) :
    (requestSequence s k).status.dropped = s.status.dropped := by
  unfold requestSequence; (repeat' split) <;> simp
@[simp] theorem requestSequence_status_refused (s : State) (k : Sequence) :
    (requestSequence s k).status.refused = s.status.refused := by
  unfold requestSequence; (repeat' split) <;> simp
@[simp] theorem requestSequence_status_expired (s : State) (k : Sequence) :
    (requestSequence s k).status.expired = s.status.expired := by
  unfold requestSequence; (repeat' split) <;> simp
@[simp] theorem requestSequence_status_startFaults (s : State) (k : Sequence) :
    (requestSequence s k).status.startFaults = s.status.startFaults := by
  unfold requestSequence; (repeat' split) <;> simp
@[simp] theorem requestSequence_status_snapshot (s : State) (k : Sequence) :
    (requestSequence s k).status.snapshot = s.status.snapshot := by
  unfold requestSequence; (repeat' split) <;> simp
@[simp] theorem requestSequence_status_owed (s : State) (k : Sequence) :
    (requestSequence s k).status.owed = s.status.owed := by
  unfold requestSequence; (repeat' split) <;> simp
@[simp] theorem requestSequence_status_attention (s : State) (k : Sequence) :
    (requestSequence s k).status.attention = s.status.attention := by
  unfold requestSequence; (repeat' split) <;> simp
@[simp] theorem requestSequence_config_loaded (s : State) (k : Sequence) :
    (requestSequence s k).config.loaded = s.config.loaded := by
  unfold requestSequence; (repeat' split) <;> simp
@[simp] theorem requestSequence_config_origin (s : State) (k : Sequence) :
    (requestSequence s k).config.origin = s.config.origin := by
  unfold requestSequence; (repeat' split) <;> simp
@[simp] theorem requestSequence_config_adopting (s : State) (k : Sequence) :
    (requestSequence s k).config.adopting = s.config.adopting := by
  unfold requestSequence; (repeat' split) <;> simp
@[simp] theorem requestSequence_config_buffer (s : State) (k : Sequence) :
    (requestSequence s k).config.buffer = s.config.buffer := by
  unfold requestSequence; (repeat' split) <;> simp
@[simp] theorem requestSequence_config_readWaits (s : State) (k : Sequence) :
    (requestSequence s k).config.readWaits = s.config.readWaits := by
  unfold requestSequence; (repeat' split) <;> simp
@[simp] theorem requestSequence_port_inFlight (s : State) (k : Sequence) :
    (requestSequence s k).port.inFlight = s.port.inFlight := by
  unfold requestSequence; (repeat' split) <;> simp
@[simp] theorem requestSequence_port_yieldLimit (s : State) (k : Sequence) :
    (requestSequence s k).port.yieldLimit = s.port.yieldLimit := by
  unfold requestSequence; (repeat' split) <;> simp
@[simp] theorem requestSequence_port_strap (s : State) (k : Sequence) :
    (requestSequence s k).port.strap = s.port.strap := by
  unfold requestSequence; (repeat' split) <;> simp
@[simp] theorem requestSequence_port_yieldControl (s : State) (k : Sequence) :
    (requestSequence s k).port.yieldControl = s.port.yieldControl := by
  unfold requestSequence; (repeat' split) <;> simp
@[simp] theorem requestSequence_port_yieldEngine (s : State) (k : Sequence) :
    (requestSequence s k).port.yieldEngine = s.port.yieldEngine := by
  unfold requestSequence; (repeat' split) <;> simp
@[simp] theorem requestSequence_port_claimHost (s : State) (k : Sequence) :
    (requestSequence s k).port.claimHost = s.port.claimHost := by
  unfold requestSequence; (repeat' split) <;> simp
@[simp] theorem requestSequence_port_claimEngine (s : State) (k : Sequence) :
    (requestSequence s k).port.claimEngine = s.port.claimEngine := by
  unfold requestSequence; (repeat' split) <;> simp

@[simp] theorem endSequence_control_scanPos (s : State) :
    (endSequence s).control.scanPos = s.control.scanPos := by simp [endSequence]
@[simp] theorem endSequence_control_scanLink (s : State) :
    (endSequence s).control.scanLink = s.control.scanLink := by simp [endSequence]

@[simp] theorem continueSequence_port_inFlight (s : State) :
    (continueSequence s).port.inFlight = s.port.inFlight := by simp [continueSequence]
@[simp] theorem continueSequence_port_yieldLimit (s : State) :
    (continueSequence s).port.yieldLimit = s.port.yieldLimit := by simp [continueSequence]
@[simp] theorem continueSequence_port_strap (s : State) :
    (continueSequence s).port.strap = s.port.strap := by simp [continueSequence]
@[simp] theorem continueSequence_port_yieldControl (s : State) :
    (continueSequence s).port.yieldControl = s.port.yieldControl := by simp [continueSequence]
@[simp] theorem continueSequence_port_yieldEngine (s : State) :
    (continueSequence s).port.yieldEngine = s.port.yieldEngine := by simp [continueSequence]
@[simp] theorem continueSequence_port_claimHost (s : State) :
    (continueSequence s).port.claimHost = s.port.claimHost := by simp [continueSequence]
@[simp] theorem continueSequence_port_claimEngine (s : State) :
    (continueSequence s).port.claimEngine = s.port.claimEngine := by simp [continueSequence]
@[simp] theorem continueSequence_control_scanPos (s : State) :
    (continueSequence s).control.scanPos = s.control.scanPos := by simp [continueSequence]
@[simp] theorem continueSequence_control_scanLink (s : State) :
    (continueSequence s).control.scanLink = s.control.scanLink := by simp [continueSequence]

@[simp] theorem requestRaiseUpdate_status_queue (s : State) :
    (requestRaiseUpdate s).status.queue = s.status.queue := by
  unfold requestRaiseUpdate; (repeat' split) <;> simp
@[simp] theorem requestRaiseUpdate_status_dropped (s : State) :
    (requestRaiseUpdate s).status.dropped = s.status.dropped := by
  unfold requestRaiseUpdate; (repeat' split) <;> simp
@[simp] theorem requestRaiseUpdate_status_refused (s : State) :
    (requestRaiseUpdate s).status.refused = s.status.refused := by
  unfold requestRaiseUpdate; (repeat' split) <;> simp
@[simp] theorem requestRaiseUpdate_status_expired (s : State) :
    (requestRaiseUpdate s).status.expired = s.status.expired := by
  unfold requestRaiseUpdate; (repeat' split) <;> simp
@[simp] theorem requestRaiseUpdate_status_startFaults (s : State) :
    (requestRaiseUpdate s).status.startFaults = s.status.startFaults := by
  unfold requestRaiseUpdate; (repeat' split) <;> simp
@[simp] theorem requestRaiseUpdate_status_snapshot (s : State) :
    (requestRaiseUpdate s).status.snapshot = s.status.snapshot := by
  unfold requestRaiseUpdate; (repeat' split) <;> simp
@[simp] theorem requestRaiseUpdate_status_attention (s : State) :
    (requestRaiseUpdate s).status.attention = s.status.attention := by
  unfold requestRaiseUpdate; (repeat' split) <;> simp
@[simp] theorem requestRaiseUpdate_config_loaded (s : State) :
    (requestRaiseUpdate s).config.loaded = s.config.loaded := by
  unfold requestRaiseUpdate; (repeat' split) <;> simp
@[simp] theorem requestRaiseUpdate_config_origin (s : State) :
    (requestRaiseUpdate s).config.origin = s.config.origin := by
  unfold requestRaiseUpdate; (repeat' split) <;> simp
@[simp] theorem requestRaiseUpdate_config_adopting (s : State) :
    (requestRaiseUpdate s).config.adopting = s.config.adopting := by
  unfold requestRaiseUpdate; (repeat' split) <;> simp
@[simp] theorem requestRaiseUpdate_config_buffer (s : State) :
    (requestRaiseUpdate s).config.buffer = s.config.buffer := by
  unfold requestRaiseUpdate; (repeat' split) <;> simp
@[simp] theorem requestRaiseUpdate_config_readWaits (s : State) :
    (requestRaiseUpdate s).config.readWaits = s.config.readWaits := by
  unfold requestRaiseUpdate; (repeat' split) <;> simp
@[simp] theorem requestRaiseUpdate_port_inFlight (s : State) :
    (requestRaiseUpdate s).port.inFlight = s.port.inFlight := by
  unfold requestRaiseUpdate; (repeat' split) <;> simp
@[simp] theorem requestRaiseUpdate_port_yieldLimit (s : State) :
    (requestRaiseUpdate s).port.yieldLimit = s.port.yieldLimit := by
  unfold requestRaiseUpdate; (repeat' split) <;> simp
@[simp] theorem requestRaiseUpdate_port_strap (s : State) :
    (requestRaiseUpdate s).port.strap = s.port.strap := by
  unfold requestRaiseUpdate; (repeat' split) <;> simp
@[simp] theorem requestRaiseUpdate_port_yieldControl (s : State) :
    (requestRaiseUpdate s).port.yieldControl = s.port.yieldControl := by
  unfold requestRaiseUpdate; (repeat' split) <;> simp
@[simp] theorem requestRaiseUpdate_port_yieldEngine (s : State) :
    (requestRaiseUpdate s).port.yieldEngine = s.port.yieldEngine := by
  unfold requestRaiseUpdate; (repeat' split) <;> simp
@[simp] theorem requestRaiseUpdate_port_claimHost (s : State) :
    (requestRaiseUpdate s).port.claimHost = s.port.claimHost := by
  unfold requestRaiseUpdate; (repeat' split) <;> simp
@[simp] theorem requestRaiseUpdate_port_claimEngine (s : State) :
    (requestRaiseUpdate s).port.claimEngine = s.port.claimEngine := by
  unfold requestRaiseUpdate; (repeat' split) <;> simp

@[simp] theorem updateForRaise_status_queue (s : State) :
    (updateForRaise s).status.queue = s.status.queue := by
  unfold updateForRaise; (repeat' split) <;> simp
@[simp] theorem updateForRaise_status_dropped (s : State) :
    (updateForRaise s).status.dropped = s.status.dropped := by
  unfold updateForRaise; (repeat' split) <;> simp
@[simp] theorem updateForRaise_status_refused (s : State) :
    (updateForRaise s).status.refused = s.status.refused := by
  unfold updateForRaise; (repeat' split) <;> simp
@[simp] theorem updateForRaise_status_expired (s : State) :
    (updateForRaise s).status.expired = s.status.expired := by
  unfold updateForRaise; (repeat' split) <;> simp
@[simp] theorem updateForRaise_status_startFaults (s : State) :
    (updateForRaise s).status.startFaults = s.status.startFaults := by
  unfold updateForRaise; (repeat' split) <;> simp
@[simp] theorem updateForRaise_status_snapshot (s : State) :
    (updateForRaise s).status.snapshot = s.status.snapshot := by
  unfold updateForRaise; (repeat' split) <;> simp
@[simp] theorem updateForRaise_status_attention (s : State) :
    (updateForRaise s).status.attention = s.status.attention := by
  unfold updateForRaise; (repeat' split) <;> simp
@[simp] theorem updateForRaise_config_loaded (s : State) :
    (updateForRaise s).config.loaded = s.config.loaded := by
  unfold updateForRaise; (repeat' split) <;> simp
@[simp] theorem updateForRaise_config_origin (s : State) :
    (updateForRaise s).config.origin = s.config.origin := by
  unfold updateForRaise; (repeat' split) <;> simp
@[simp] theorem updateForRaise_config_adopting (s : State) :
    (updateForRaise s).config.adopting = s.config.adopting := by
  unfold updateForRaise; (repeat' split) <;> simp
@[simp] theorem updateForRaise_config_buffer (s : State) :
    (updateForRaise s).config.buffer = s.config.buffer := by
  unfold updateForRaise; (repeat' split) <;> simp
@[simp] theorem updateForRaise_config_readWaits (s : State) :
    (updateForRaise s).config.readWaits = s.config.readWaits := by
  unfold updateForRaise; (repeat' split) <;> simp
@[simp] theorem updateForRaise_port_inFlight (s : State) :
    (updateForRaise s).port.inFlight = s.port.inFlight := by
  unfold updateForRaise; (repeat' split) <;> simp
@[simp] theorem updateForRaise_port_yieldLimit (s : State) :
    (updateForRaise s).port.yieldLimit = s.port.yieldLimit := by
  unfold updateForRaise; (repeat' split) <;> simp
@[simp] theorem updateForRaise_port_strap (s : State) :
    (updateForRaise s).port.strap = s.port.strap := by
  unfold updateForRaise; (repeat' split) <;> simp
@[simp] theorem updateForRaise_port_yieldControl (s : State) :
    (updateForRaise s).port.yieldControl = s.port.yieldControl := by
  unfold updateForRaise; (repeat' split) <;> simp
@[simp] theorem updateForRaise_port_yieldEngine (s : State) :
    (updateForRaise s).port.yieldEngine = s.port.yieldEngine := by
  unfold updateForRaise; (repeat' split) <;> simp
@[simp] theorem updateForRaise_port_claimHost (s : State) :
    (updateForRaise s).port.claimHost = s.port.claimHost := by
  unfold updateForRaise; (repeat' split) <;> simp
@[simp] theorem updateForRaise_port_claimEngine (s : State) :
    (updateForRaise s).port.claimEngine = s.port.claimEngine := by
  unfold updateForRaise; (repeat' split) <;> simp

@[simp] theorem updateForNegation_status_queue (s : State) :
    (updateForNegation s).status.queue = s.status.queue := by
  unfold updateForNegation; (repeat' split) <;> simp
@[simp] theorem updateForNegation_status_dropped (s : State) :
    (updateForNegation s).status.dropped = s.status.dropped := by
  unfold updateForNegation; (repeat' split) <;> simp
@[simp] theorem updateForNegation_status_refused (s : State) :
    (updateForNegation s).status.refused = s.status.refused := by
  unfold updateForNegation; (repeat' split) <;> simp
@[simp] theorem updateForNegation_status_expired (s : State) :
    (updateForNegation s).status.expired = s.status.expired := by
  unfold updateForNegation; (repeat' split) <;> simp
@[simp] theorem updateForNegation_status_startFaults (s : State) :
    (updateForNegation s).status.startFaults = s.status.startFaults := by
  unfold updateForNegation; (repeat' split) <;> simp
@[simp] theorem updateForNegation_status_snapshot (s : State) :
    (updateForNegation s).status.snapshot = s.status.snapshot := by
  unfold updateForNegation; (repeat' split) <;> simp
@[simp] theorem updateForNegation_status_attention (s : State) :
    (updateForNegation s).status.attention = s.status.attention := by
  unfold updateForNegation; (repeat' split) <;> simp
@[simp] theorem updateForNegation_config_loaded (s : State) :
    (updateForNegation s).config.loaded = s.config.loaded := by
  unfold updateForNegation; (repeat' split) <;> simp
@[simp] theorem updateForNegation_config_origin (s : State) :
    (updateForNegation s).config.origin = s.config.origin := by
  unfold updateForNegation; (repeat' split) <;> simp
@[simp] theorem updateForNegation_config_adopting (s : State) :
    (updateForNegation s).config.adopting = s.config.adopting := by
  unfold updateForNegation; (repeat' split) <;> simp
@[simp] theorem updateForNegation_config_buffer (s : State) :
    (updateForNegation s).config.buffer = s.config.buffer := by
  unfold updateForNegation; (repeat' split) <;> simp
@[simp] theorem updateForNegation_config_readWaits (s : State) :
    (updateForNegation s).config.readWaits = s.config.readWaits := by
  unfold updateForNegation; (repeat' split) <;> simp
@[simp] theorem updateForNegation_port_inFlight (s : State) :
    (updateForNegation s).port.inFlight = s.port.inFlight := by
  unfold updateForNegation; (repeat' split) <;> simp
@[simp] theorem updateForNegation_port_yieldLimit (s : State) :
    (updateForNegation s).port.yieldLimit = s.port.yieldLimit := by
  unfold updateForNegation; (repeat' split) <;> simp
@[simp] theorem updateForNegation_port_strap (s : State) :
    (updateForNegation s).port.strap = s.port.strap := by
  unfold updateForNegation; (repeat' split) <;> simp
@[simp] theorem updateForNegation_port_yieldControl (s : State) :
    (updateForNegation s).port.yieldControl = s.port.yieldControl := by
  unfold updateForNegation; (repeat' split) <;> simp
@[simp] theorem updateForNegation_port_yieldEngine (s : State) :
    (updateForNegation s).port.yieldEngine = s.port.yieldEngine := by
  unfold updateForNegation; (repeat' split) <;> simp
@[simp] theorem updateForNegation_port_claimHost (s : State) :
    (updateForNegation s).port.claimHost = s.port.claimHost := by
  unfold updateForNegation; (repeat' split) <;> simp
@[simp] theorem updateForNegation_port_claimEngine (s : State) :
    (updateForNegation s).port.claimEngine = s.port.claimEngine := by
  unfold updateForNegation; (repeat' split) <;> simp

@[simp] theorem raiseEvent_status_refused (s : State) (k : EventKind) (d : EventDetail) (arg : Option Nat) :
    (raiseEvent s k d arg).status.refused = s.status.refused := by simp [raiseEvent]
@[simp] theorem raiseEvent_status_expired (s : State) (k : EventKind) (d : EventDetail) (arg : Option Nat) :
    (raiseEvent s k d arg).status.expired = s.status.expired := by simp [raiseEvent]
@[simp] theorem raiseEvent_status_startFaults (s : State) (k : EventKind) (d : EventDetail) (arg : Option Nat) :
    (raiseEvent s k d arg).status.startFaults = s.status.startFaults := by simp [raiseEvent]
@[simp] theorem raiseEvent_status_snapshot (s : State) (k : EventKind) (d : EventDetail) (arg : Option Nat) :
    (raiseEvent s k d arg).status.snapshot = s.status.snapshot := by simp [raiseEvent]
@[simp] theorem raiseEvent_status_attention (s : State) (k : EventKind) (d : EventDetail) (arg : Option Nat) :
    (raiseEvent s k d arg).status.attention = s.status.attention := by simp [raiseEvent]
@[simp] theorem raiseEvent_config_loaded (s : State) (k : EventKind) (d : EventDetail) (arg : Option Nat) :
    (raiseEvent s k d arg).config.loaded = s.config.loaded := by simp [raiseEvent]
@[simp] theorem raiseEvent_config_origin (s : State) (k : EventKind) (d : EventDetail) (arg : Option Nat) :
    (raiseEvent s k d arg).config.origin = s.config.origin := by simp [raiseEvent]
@[simp] theorem raiseEvent_config_adopting (s : State) (k : EventKind) (d : EventDetail) (arg : Option Nat) :
    (raiseEvent s k d arg).config.adopting = s.config.adopting := by simp [raiseEvent]
@[simp] theorem raiseEvent_config_buffer (s : State) (k : EventKind) (d : EventDetail) (arg : Option Nat) :
    (raiseEvent s k d arg).config.buffer = s.config.buffer := by simp [raiseEvent]
@[simp] theorem raiseEvent_config_readWaits (s : State) (k : EventKind) (d : EventDetail) (arg : Option Nat) :
    (raiseEvent s k d arg).config.readWaits = s.config.readWaits := by simp [raiseEvent]
@[simp] theorem raiseEvent_port_inFlight (s : State) (k : EventKind) (d : EventDetail) (arg : Option Nat) :
    (raiseEvent s k d arg).port.inFlight = s.port.inFlight := by simp [raiseEvent]
@[simp] theorem raiseEvent_port_yieldLimit (s : State) (k : EventKind) (d : EventDetail) (arg : Option Nat) :
    (raiseEvent s k d arg).port.yieldLimit = s.port.yieldLimit := by simp [raiseEvent]
@[simp] theorem raiseEvent_port_strap (s : State) (k : EventKind) (d : EventDetail) (arg : Option Nat) :
    (raiseEvent s k d arg).port.strap = s.port.strap := by simp [raiseEvent]
@[simp] theorem raiseEvent_port_yieldControl (s : State) (k : EventKind) (d : EventDetail) (arg : Option Nat) :
    (raiseEvent s k d arg).port.yieldControl = s.port.yieldControl := by simp [raiseEvent]
@[simp] theorem raiseEvent_port_yieldEngine (s : State) (k : EventKind) (d : EventDetail) (arg : Option Nat) :
    (raiseEvent s k d arg).port.yieldEngine = s.port.yieldEngine := by simp [raiseEvent]
@[simp] theorem raiseEvent_port_claimHost (s : State) (k : EventKind) (d : EventDetail) (arg : Option Nat) :
    (raiseEvent s k d arg).port.claimHost = s.port.claimHost := by simp [raiseEvent]
@[simp] theorem raiseEvent_port_claimEngine (s : State) (k : EventKind) (d : EventDetail) (arg : Option Nat) :
    (raiseEvent s k d arg).port.claimEngine = s.port.claimEngine := by simp [raiseEvent]

@[simp] theorem markShort_txn_op (s : State) : (markShort s).txn.op = s.txn.op := by
  unfold markShort; (repeat' split) <;> simp
@[simp] theorem markShort_txn_stage (s : State) : (markShort s).txn.stage = s.txn.stage := by
  unfold markShort; (repeat' split) <;> simp
@[simp] theorem markShort_txn_found (s : State) : (markShort s).txn.found = s.txn.found := by
  unfold markShort; (repeat' split) <;> simp
@[simp] theorem markShort_txn_headerWritten (s : State) :
    (markShort s).txn.headerWritten = s.txn.headerWritten := by
  unfold markShort; (repeat' split) <;> simp
@[simp] theorem markShort_txn_endState (s : State) :
    (markShort s).txn.endState = s.txn.endState := by
  unfold markShort; (repeat' split) <;> simp

@[simp] theorem releaseStagedRead_status_queue (s : State) :
    (releaseStagedRead s).status.queue = s.status.queue := by
  unfold releaseStagedRead; (repeat' split) <;> simp
@[simp] theorem releaseStagedRead_status_dropped (s : State) :
    (releaseStagedRead s).status.dropped = s.status.dropped := by
  unfold releaseStagedRead; (repeat' split) <;> simp
@[simp] theorem releaseStagedRead_status_refused (s : State) :
    (releaseStagedRead s).status.refused = s.status.refused := by
  unfold releaseStagedRead; (repeat' split) <;> simp
@[simp] theorem releaseStagedRead_status_expired (s : State) :
    (releaseStagedRead s).status.expired = s.status.expired := by
  unfold releaseStagedRead; (repeat' split) <;> simp
@[simp] theorem releaseStagedRead_status_startFaults (s : State) :
    (releaseStagedRead s).status.startFaults = s.status.startFaults := by
  unfold releaseStagedRead; (repeat' split) <;> simp
@[simp] theorem releaseStagedRead_status_snapshot (s : State) :
    (releaseStagedRead s).status.snapshot = s.status.snapshot := by
  unfold releaseStagedRead; (repeat' split) <;> simp
@[simp] theorem releaseStagedRead_status_owed (s : State) :
    (releaseStagedRead s).status.owed = s.status.owed := by
  unfold releaseStagedRead; (repeat' split) <;> simp
@[simp] theorem releaseStagedRead_status_attention (s : State) :
    (releaseStagedRead s).status.attention = s.status.attention := by
  unfold releaseStagedRead; (repeat' split) <;> simp
@[simp] theorem releaseStagedRead_config_loaded (s : State) :
    (releaseStagedRead s).config.loaded = s.config.loaded := by
  unfold releaseStagedRead; (repeat' split) <;> simp
@[simp] theorem releaseStagedRead_config_origin (s : State) :
    (releaseStagedRead s).config.origin = s.config.origin := by
  unfold releaseStagedRead; (repeat' split) <;> simp
@[simp] theorem releaseStagedRead_config_adopting (s : State) :
    (releaseStagedRead s).config.adopting = s.config.adopting := by
  unfold releaseStagedRead; (repeat' split) <;> simp
@[simp] theorem releaseStagedRead_config_buffer (s : State) :
    (releaseStagedRead s).config.buffer = s.config.buffer := by
  unfold releaseStagedRead; (repeat' split) <;> simp
@[simp] theorem releaseStagedRead_port_inFlight (s : State) :
    (releaseStagedRead s).port.inFlight = s.port.inFlight := by
  unfold releaseStagedRead; (repeat' split) <;> simp
@[simp] theorem releaseStagedRead_port_yieldLimit (s : State) :
    (releaseStagedRead s).port.yieldLimit = s.port.yieldLimit := by
  unfold releaseStagedRead; (repeat' split) <;> simp
@[simp] theorem releaseStagedRead_port_strap (s : State) :
    (releaseStagedRead s).port.strap = s.port.strap := by
  unfold releaseStagedRead; (repeat' split) <;> simp
@[simp] theorem releaseStagedRead_port_yieldControl (s : State) :
    (releaseStagedRead s).port.yieldControl = s.port.yieldControl := by
  unfold releaseStagedRead; (repeat' split) <;> simp
@[simp] theorem releaseStagedRead_port_yieldEngine (s : State) :
    (releaseStagedRead s).port.yieldEngine = s.port.yieldEngine := by
  unfold releaseStagedRead; (repeat' split) <;> simp
@[simp] theorem releaseStagedRead_port_claimHost (s : State) :
    (releaseStagedRead s).port.claimHost = s.port.claimHost := by
  unfold releaseStagedRead; (repeat' split) <;> simp
@[simp] theorem releaseStagedRead_port_claimEngine (s : State) :
    (releaseStagedRead s).port.claimEngine = s.port.claimEngine := by
  unfold releaseStagedRead; (repeat' split) <;> simp

@[simp] theorem endNormally_status_queue (s : State) (rd : Byte) :
    (endNormally s rd).status.queue = s.status.queue := by
  unfold endNormally; (repeat' split) <;> simp
@[simp] theorem endNormally_status_dropped (s : State) (rd : Byte) :
    (endNormally s rd).status.dropped = s.status.dropped := by
  unfold endNormally; (repeat' split) <;> simp
@[simp] theorem endNormally_status_refused (s : State) (rd : Byte) :
    (endNormally s rd).status.refused = s.status.refused := by
  unfold endNormally; (repeat' split) <;> simp
@[simp] theorem endNormally_status_expired (s : State) (rd : Byte) :
    (endNormally s rd).status.expired = s.status.expired := by
  unfold endNormally; (repeat' split) <;> simp
@[simp] theorem endNormally_status_startFaults (s : State) (rd : Byte) :
    (endNormally s rd).status.startFaults = s.status.startFaults := by
  unfold endNormally; (repeat' split) <;> simp
@[simp] theorem endNormally_status_snapshot (s : State) (rd : Byte) :
    (endNormally s rd).status.snapshot = s.status.snapshot := by
  unfold endNormally; (repeat' split) <;> simp
@[simp] theorem endNormally_status_owed (s : State) (rd : Byte) :
    (endNormally s rd).status.owed = s.status.owed := by
  unfold endNormally; (repeat' split) <;> simp
@[simp] theorem endNormally_status_attention (s : State) (rd : Byte) :
    (endNormally s rd).status.attention = s.status.attention := by
  unfold endNormally; (repeat' split) <;> simp
@[simp] theorem endNormally_config_loaded (s : State) (rd : Byte) :
    (endNormally s rd).config.loaded = s.config.loaded := by
  unfold endNormally; (repeat' split) <;> simp
@[simp] theorem endNormally_config_origin (s : State) (rd : Byte) :
    (endNormally s rd).config.origin = s.config.origin := by
  unfold endNormally; (repeat' split) <;> simp
@[simp] theorem endNormally_config_adopting (s : State) (rd : Byte) :
    (endNormally s rd).config.adopting = s.config.adopting := by
  unfold endNormally; (repeat' split) <;> simp
@[simp] theorem endNormally_config_buffer (s : State) (rd : Byte) :
    (endNormally s rd).config.buffer = s.config.buffer := by
  unfold endNormally; (repeat' split) <;> simp
@[simp] theorem endNormally_port_inFlight (s : State) (rd : Byte) :
    (endNormally s rd).port.inFlight = s.port.inFlight := by
  unfold endNormally; (repeat' split) <;> simp
@[simp] theorem endNormally_port_yieldLimit (s : State) (rd : Byte) :
    (endNormally s rd).port.yieldLimit = s.port.yieldLimit := by
  unfold endNormally; (repeat' split) <;> simp
@[simp] theorem endNormally_port_strap (s : State) (rd : Byte) :
    (endNormally s rd).port.strap = s.port.strap := by
  unfold endNormally; (repeat' split) <;> simp
@[simp] theorem endNormally_port_yieldControl (s : State) (rd : Byte) :
    (endNormally s rd).port.yieldControl = s.port.yieldControl := by
  unfold endNormally; (repeat' split) <;> simp
@[simp] theorem endNormally_port_yieldEngine (s : State) (rd : Byte) :
    (endNormally s rd).port.yieldEngine = s.port.yieldEngine := by
  unfold endNormally; (repeat' split) <;> simp
@[simp] theorem endNormally_port_claimHost (s : State) (rd : Byte) :
    (endNormally s rd).port.claimHost = s.port.claimHost := by
  unfold endNormally; (repeat' split) <;> simp
@[simp] theorem endNormally_port_claimEngine (s : State) (rd : Byte) :
    (endNormally s rd).port.claimEngine = s.port.claimEngine := by
  unfold endNormally; (repeat' split) <;> simp

@[simp] theorem endWithFault_status_queue (s : State) :
    (endWithFault s).status.queue = s.status.queue := by
  unfold endWithFault; (repeat' split) <;> simp
@[simp] theorem endWithFault_status_dropped (s : State) :
    (endWithFault s).status.dropped = s.status.dropped := by
  unfold endWithFault; (repeat' split) <;> simp
@[simp] theorem endWithFault_status_refused (s : State) :
    (endWithFault s).status.refused = s.status.refused := by
  unfold endWithFault; (repeat' split) <;> simp
@[simp] theorem endWithFault_status_expired (s : State) :
    (endWithFault s).status.expired = s.status.expired := by
  unfold endWithFault; (repeat' split) <;> simp
@[simp] theorem endWithFault_status_startFaults (s : State) :
    (endWithFault s).status.startFaults = s.status.startFaults := by
  unfold endWithFault; (repeat' split) <;> simp
@[simp] theorem endWithFault_status_snapshot (s : State) :
    (endWithFault s).status.snapshot = s.status.snapshot := by
  unfold endWithFault; (repeat' split) <;> simp
@[simp] theorem endWithFault_status_owed (s : State) :
    (endWithFault s).status.owed = s.status.owed := by
  unfold endWithFault; (repeat' split) <;> simp
@[simp] theorem endWithFault_status_attention (s : State) :
    (endWithFault s).status.attention = s.status.attention := by
  unfold endWithFault; (repeat' split) <;> simp
@[simp] theorem endWithFault_config_loaded (s : State) :
    (endWithFault s).config.loaded = s.config.loaded := by
  unfold endWithFault; (repeat' split) <;> simp
@[simp] theorem endWithFault_config_origin (s : State) :
    (endWithFault s).config.origin = s.config.origin := by
  unfold endWithFault; (repeat' split) <;> simp
@[simp] theorem endWithFault_config_adopting (s : State) :
    (endWithFault s).config.adopting = s.config.adopting := by
  unfold endWithFault; (repeat' split) <;> simp
@[simp] theorem endWithFault_config_buffer (s : State) :
    (endWithFault s).config.buffer = s.config.buffer := by
  unfold endWithFault; (repeat' split) <;> simp
@[simp] theorem endWithFault_port_inFlight (s : State) :
    (endWithFault s).port.inFlight = s.port.inFlight := by
  unfold endWithFault; (repeat' split) <;> simp
@[simp] theorem endWithFault_port_yieldLimit (s : State) :
    (endWithFault s).port.yieldLimit = s.port.yieldLimit := by
  unfold endWithFault; (repeat' split) <;> simp
@[simp] theorem endWithFault_port_strap (s : State) :
    (endWithFault s).port.strap = s.port.strap := by
  unfold endWithFault; (repeat' split) <;> simp
@[simp] theorem endWithFault_port_yieldControl (s : State) :
    (endWithFault s).port.yieldControl = s.port.yieldControl := by
  unfold endWithFault; (repeat' split) <;> simp
@[simp] theorem endWithFault_port_yieldEngine (s : State) :
    (endWithFault s).port.yieldEngine = s.port.yieldEngine := by
  unfold endWithFault; (repeat' split) <;> simp
@[simp] theorem endWithFault_port_claimHost (s : State) :
    (endWithFault s).port.claimHost = s.port.claimHost := by
  unfold endWithFault; (repeat' split) <;> simp
@[simp] theorem endWithFault_port_claimEngine (s : State) :
    (endWithFault s).port.claimEngine = s.port.claimEngine := by
  unfold endWithFault; (repeat' split) <;> simp

@[simp] theorem faultInStartup_status_queue (s : State) :
    (faultInStartup s).status.queue = s.status.queue := by simp [faultInStartup]
@[simp] theorem faultInStartup_status_dropped (s : State) :
    (faultInStartup s).status.dropped = s.status.dropped := by simp [faultInStartup]
@[simp] theorem faultInStartup_status_refused (s : State) :
    (faultInStartup s).status.refused = s.status.refused := by simp [faultInStartup]
@[simp] theorem faultInStartup_status_expired (s : State) :
    (faultInStartup s).status.expired = s.status.expired := by simp [faultInStartup]
@[simp] theorem faultInStartup_status_snapshot (s : State) :
    (faultInStartup s).status.snapshot = s.status.snapshot := by simp [faultInStartup]
@[simp] theorem faultInStartup_status_owed (s : State) :
    (faultInStartup s).status.owed = s.status.owed := by simp [faultInStartup]
@[simp] theorem faultInStartup_status_attention (s : State) :
    (faultInStartup s).status.attention = s.status.attention := by simp [faultInStartup]
@[simp] theorem faultInStartup_config_loaded (s : State) :
    (faultInStartup s).config.loaded = s.config.loaded := by simp [faultInStartup]
@[simp] theorem faultInStartup_config_origin (s : State) :
    (faultInStartup s).config.origin = s.config.origin := by simp [faultInStartup]
@[simp] theorem faultInStartup_config_adopting (s : State) :
    (faultInStartup s).config.adopting = s.config.adopting := by simp [faultInStartup]
@[simp] theorem faultInStartup_config_buffer (s : State) :
    (faultInStartup s).config.buffer = s.config.buffer := by simp [faultInStartup]
@[simp] theorem faultInStartup_port_inFlight (s : State) :
    (faultInStartup s).port.inFlight = s.port.inFlight := by simp [faultInStartup]
@[simp] theorem faultInStartup_port_yieldLimit (s : State) :
    (faultInStartup s).port.yieldLimit = s.port.yieldLimit := by simp [faultInStartup]
@[simp] theorem faultInStartup_port_strap (s : State) :
    (faultInStartup s).port.strap = s.port.strap := by simp [faultInStartup]
@[simp] theorem faultInStartup_port_yieldControl (s : State) :
    (faultInStartup s).port.yieldControl = s.port.yieldControl := by simp [faultInStartup]
@[simp] theorem faultInStartup_port_yieldEngine (s : State) :
    (faultInStartup s).port.yieldEngine = s.port.yieldEngine := by simp [faultInStartup]
@[simp] theorem faultInStartup_port_claimHost (s : State) :
    (faultInStartup s).port.claimHost = s.port.claimHost := by simp [faultInStartup]
@[simp] theorem faultInStartup_port_claimEngine (s : State) :
    (faultInStartup s).port.claimEngine = s.port.claimEngine := by simp [faultInStartup]

@[simp] theorem raiseRefusal_status_refused (s : State) (r : WriteReason) (a : Addr) :
    (raiseRefusal s r a).status.refused = s.status.refused := by
  unfold raiseRefusal; (repeat' split) <;> simp
@[simp] theorem raiseRefusal_status_expired (s : State) (r : WriteReason) (a : Addr) :
    (raiseRefusal s r a).status.expired = s.status.expired := by
  unfold raiseRefusal; (repeat' split) <;> simp
@[simp] theorem raiseRefusal_status_startFaults (s : State) (r : WriteReason) (a : Addr) :
    (raiseRefusal s r a).status.startFaults = s.status.startFaults := by
  unfold raiseRefusal; (repeat' split) <;> simp
@[simp] theorem raiseRefusal_status_snapshot (s : State) (r : WriteReason) (a : Addr) :
    (raiseRefusal s r a).status.snapshot = s.status.snapshot := by
  unfold raiseRefusal; (repeat' split) <;> simp
@[simp] theorem raiseRefusal_status_attention (s : State) (r : WriteReason) (a : Addr) :
    (raiseRefusal s r a).status.attention = s.status.attention := by
  unfold raiseRefusal; (repeat' split) <;> simp
@[simp] theorem raiseRefusal_config_loaded (s : State) (r : WriteReason) (a : Addr) :
    (raiseRefusal s r a).config.loaded = s.config.loaded := by
  unfold raiseRefusal; (repeat' split) <;> simp
@[simp] theorem raiseRefusal_config_origin (s : State) (r : WriteReason) (a : Addr) :
    (raiseRefusal s r a).config.origin = s.config.origin := by
  unfold raiseRefusal; (repeat' split) <;> simp
@[simp] theorem raiseRefusal_config_adopting (s : State) (r : WriteReason) (a : Addr) :
    (raiseRefusal s r a).config.adopting = s.config.adopting := by
  unfold raiseRefusal; (repeat' split) <;> simp
@[simp] theorem raiseRefusal_config_buffer (s : State) (r : WriteReason) (a : Addr) :
    (raiseRefusal s r a).config.buffer = s.config.buffer := by
  unfold raiseRefusal; (repeat' split) <;> simp
@[simp] theorem raiseRefusal_config_readWaits (s : State) (r : WriteReason) (a : Addr) :
    (raiseRefusal s r a).config.readWaits = s.config.readWaits := by
  unfold raiseRefusal; (repeat' split) <;> simp
@[simp] theorem raiseRefusal_port_inFlight (s : State) (r : WriteReason) (a : Addr) :
    (raiseRefusal s r a).port.inFlight = s.port.inFlight := by
  unfold raiseRefusal; (repeat' split) <;> simp
@[simp] theorem raiseRefusal_port_yieldLimit (s : State) (r : WriteReason) (a : Addr) :
    (raiseRefusal s r a).port.yieldLimit = s.port.yieldLimit := by
  unfold raiseRefusal; (repeat' split) <;> simp
@[simp] theorem raiseRefusal_port_strap (s : State) (r : WriteReason) (a : Addr) :
    (raiseRefusal s r a).port.strap = s.port.strap := by
  unfold raiseRefusal; (repeat' split) <;> simp
@[simp] theorem raiseRefusal_port_yieldControl (s : State) (r : WriteReason) (a : Addr) :
    (raiseRefusal s r a).port.yieldControl = s.port.yieldControl := by
  unfold raiseRefusal; (repeat' split) <;> simp
@[simp] theorem raiseRefusal_port_yieldEngine (s : State) (r : WriteReason) (a : Addr) :
    (raiseRefusal s r a).port.yieldEngine = s.port.yieldEngine := by
  unfold raiseRefusal; (repeat' split) <;> simp
@[simp] theorem raiseRefusal_port_claimHost (s : State) (r : WriteReason) (a : Addr) :
    (raiseRefusal s r a).port.claimHost = s.port.claimHost := by
  unfold raiseRefusal; (repeat' split) <;> simp
@[simp] theorem raiseRefusal_port_claimEngine (s : State) (r : WriteReason) (a : Addr) :
    (raiseRefusal s r a).port.claimEngine = s.port.claimEngine := by
  unfold raiseRefusal; (repeat' split) <;> simp

@[simp] theorem refuseWrite_status_expired (s : State) (r : WriteReason) :
    (refuseWrite s r).status.expired = s.status.expired := by
  unfold refuseWrite; (repeat' split) <;> simp
@[simp] theorem refuseWrite_status_startFaults (s : State) (r : WriteReason) :
    (refuseWrite s r).status.startFaults = s.status.startFaults := by
  unfold refuseWrite; (repeat' split) <;> simp
@[simp] theorem refuseWrite_status_snapshot (s : State) (r : WriteReason) :
    (refuseWrite s r).status.snapshot = s.status.snapshot := by
  unfold refuseWrite; (repeat' split) <;> simp
@[simp] theorem refuseWrite_status_attention (s : State) (r : WriteReason) :
    (refuseWrite s r).status.attention = s.status.attention := by
  unfold refuseWrite; (repeat' split) <;> simp
@[simp] theorem refuseWrite_config_loaded (s : State) (r : WriteReason) :
    (refuseWrite s r).config.loaded = s.config.loaded := by
  unfold refuseWrite; (repeat' split) <;> simp
@[simp] theorem refuseWrite_config_origin (s : State) (r : WriteReason) :
    (refuseWrite s r).config.origin = s.config.origin := by
  unfold refuseWrite; (repeat' split) <;> simp
@[simp] theorem refuseWrite_config_adopting (s : State) (r : WriteReason) :
    (refuseWrite s r).config.adopting = s.config.adopting := by
  unfold refuseWrite; (repeat' split) <;> simp
@[simp] theorem refuseWrite_config_buffer (s : State) (r : WriteReason) :
    (refuseWrite s r).config.buffer = s.config.buffer := by
  unfold refuseWrite; (repeat' split) <;> simp
@[simp] theorem refuseWrite_txn_op (s : State) (r : WriteReason) :
    (refuseWrite s r).txn.op = s.txn.op := by
  unfold refuseWrite; (repeat' split) <;> simp
@[simp] theorem refuseWrite_txn_stage (s : State) (r : WriteReason) :
    (refuseWrite s r).txn.stage = s.txn.stage := by
  unfold refuseWrite; (repeat' split) <;> simp
@[simp] theorem refuseWrite_txn_found (s : State) (r : WriteReason) :
    (refuseWrite s r).txn.found = s.txn.found := by
  unfold refuseWrite; (repeat' split) <;> simp
@[simp] theorem refuseWrite_txn_headerWritten (s : State) (r : WriteReason) :
    (refuseWrite s r).txn.headerWritten = s.txn.headerWritten := by
  unfold refuseWrite; (repeat' split) <;> simp
@[simp] theorem refuseWrite_txn_endState (s : State) (r : WriteReason) :
    (refuseWrite s r).txn.endState = s.txn.endState := by
  unfold refuseWrite; (repeat' split) <;> simp
@[simp] theorem refuseWrite_port_inFlight (s : State) (r : WriteReason) :
    (refuseWrite s r).port.inFlight = s.port.inFlight := by
  unfold refuseWrite; (repeat' split) <;> simp
@[simp] theorem refuseWrite_port_yieldLimit (s : State) (r : WriteReason) :
    (refuseWrite s r).port.yieldLimit = s.port.yieldLimit := by
  unfold refuseWrite; (repeat' split) <;> simp
@[simp] theorem refuseWrite_port_strap (s : State) (r : WriteReason) :
    (refuseWrite s r).port.strap = s.port.strap := by
  unfold refuseWrite; (repeat' split) <;> simp
@[simp] theorem refuseWrite_port_yieldControl (s : State) (r : WriteReason) :
    (refuseWrite s r).port.yieldControl = s.port.yieldControl := by
  unfold refuseWrite; (repeat' split) <;> simp
@[simp] theorem refuseWrite_port_yieldEngine (s : State) (r : WriteReason) :
    (refuseWrite s r).port.yieldEngine = s.port.yieldEngine := by
  unfold refuseWrite; (repeat' split) <;> simp
@[simp] theorem refuseWrite_port_claimHost (s : State) (r : WriteReason) :
    (refuseWrite s r).port.claimHost = s.port.claimHost := by
  unfold refuseWrite; (repeat' split) <;> simp
@[simp] theorem refuseWrite_port_claimEngine (s : State) (r : WriteReason) :
    (refuseWrite s r).port.claimEngine = s.port.claimEngine := by
  unfold refuseWrite; (repeat' split) <;> simp

@[simp] theorem expireCycle_status_refused (s : State) :
    (expireCycle s).status.refused = s.status.refused := by
  unfold expireCycle; (repeat' split) <;> simp
@[simp] theorem expireCycle_status_snapshot (s : State) :
    (expireCycle s).status.snapshot = s.status.snapshot := by
  unfold expireCycle; (repeat' split) <;> simp
@[simp] theorem expireCycle_status_attention (s : State) :
    (expireCycle s).status.attention = s.status.attention := by
  unfold expireCycle; (repeat' split) <;> simp
@[simp] theorem expireCycle_config_loaded (s : State) :
    (expireCycle s).config.loaded = s.config.loaded := by
  unfold expireCycle; (repeat' split) <;> simp
@[simp] theorem expireCycle_config_origin (s : State) :
    (expireCycle s).config.origin = s.config.origin := by
  unfold expireCycle; (repeat' split) <;> simp
@[simp] theorem expireCycle_config_adopting (s : State) :
    (expireCycle s).config.adopting = s.config.adopting := by
  unfold expireCycle; (repeat' split) <;> simp
@[simp] theorem expireCycle_config_buffer (s : State) :
    (expireCycle s).config.buffer = s.config.buffer := by
  unfold expireCycle; (repeat' split) <;> simp
@[simp] theorem expireCycle_txn_op (s : State) : (expireCycle s).txn.op = s.txn.op := by
  unfold expireCycle; (repeat' split) <;> simp
@[simp] theorem expireCycle_txn_stage (s : State) : (expireCycle s).txn.stage = s.txn.stage := by
  unfold expireCycle; (repeat' split) <;> simp
@[simp] theorem expireCycle_txn_found (s : State) : (expireCycle s).txn.found = s.txn.found := by
  unfold expireCycle; (repeat' split) <;> simp
@[simp] theorem expireCycle_txn_headerWritten (s : State) :
    (expireCycle s).txn.headerWritten = s.txn.headerWritten := by
  unfold expireCycle; (repeat' split) <;> simp
@[simp] theorem expireCycle_txn_endState (s : State) :
    (expireCycle s).txn.endState = s.txn.endState := by
  unfold expireCycle; (repeat' split) <;> simp
@[simp] theorem expireCycle_port_inFlight (s : State) :
    (expireCycle s).port.inFlight = s.port.inFlight := by
  unfold expireCycle; (repeat' split) <;> simp
@[simp] theorem expireCycle_port_yieldLimit (s : State) :
    (expireCycle s).port.yieldLimit = s.port.yieldLimit := by
  unfold expireCycle; (repeat' split) <;> simp
@[simp] theorem expireCycle_port_strap (s : State) : (expireCycle s).port.strap = s.port.strap := by
  unfold expireCycle; (repeat' split) <;> simp
@[simp] theorem expireCycle_port_yieldControl (s : State) :
    (expireCycle s).port.yieldControl = s.port.yieldControl := by
  unfold expireCycle; (repeat' split) <;> simp
@[simp] theorem expireCycle_port_yieldEngine (s : State) :
    (expireCycle s).port.yieldEngine = s.port.yieldEngine := by
  unfold expireCycle; (repeat' split) <;> simp
@[simp] theorem expireCycle_port_claimHost (s : State) :
    (expireCycle s).port.claimHost = s.port.claimHost := by
  unfold expireCycle; (repeat' split) <;> simp
@[simp] theorem expireCycle_port_claimEngine (s : State) :
    (expireCycle s).port.claimEngine = s.port.claimEngine := by
  unfold expireCycle; (repeat' split) <;> simp

@[simp] theorem claimPass_host_hfault (s : State) : (claimPass s).host.hfault = s.host.hfault := by
  unfold claimPass; (repeat' split) <;> simp
@[simp] theorem claimPass_host_data (s : State) : (claimPass s).host.data = s.host.data := by
  unfold claimPass; (repeat' split) <;> simp
@[simp] theorem claimPass_port_inFlight (s : State) :
    (claimPass s).port.inFlight = s.port.inFlight := by
  unfold claimPass; (repeat' split) <;> simp
@[simp] theorem claimPass_port_yieldLimit (s : State) :
    (claimPass s).port.yieldLimit = s.port.yieldLimit := by
  unfold claimPass; (repeat' split) <;> simp
@[simp] theorem claimPass_port_strap (s : State) : (claimPass s).port.strap = s.port.strap := by
  unfold claimPass; (repeat' split) <;> simp
@[simp] theorem claimPass_port_yieldControl (s : State) :
    (claimPass s).port.yieldControl = s.port.yieldControl := by
  unfold claimPass; (repeat' split) <;> simp
@[simp] theorem claimPass_port_yieldEngine (s : State) :
    (claimPass s).port.yieldEngine = s.port.yieldEngine := by
  unfold claimPass; (repeat' split) <;> simp
@[simp] theorem claimPass_port_claimControl (s : State) :
    (claimPass s).port.claimControl = s.port.claimControl := by
  unfold claimPass; (repeat' split) <;> simp
@[simp] theorem claimPass_port_claimEngine (s : State) :
    (claimPass s).port.claimEngine = s.port.claimEngine := by
  unfold claimPass; (repeat' split) <;> simp

@[simp] theorem offerInsert_status_refused (s : State) (g : Nat) (d : Nat) (p : Nat) :
    (offerInsert s g d p).status.refused = s.status.refused := by
  unfold offerInsert; (repeat' split) <;> simp
@[simp] theorem offerInsert_status_expired (s : State) (g : Nat) (d : Nat) (p : Nat) :
    (offerInsert s g d p).status.expired = s.status.expired := by
  unfold offerInsert; (repeat' split) <;> simp
@[simp] theorem offerInsert_status_startFaults (s : State) (g : Nat) (d : Nat) (p : Nat) :
    (offerInsert s g d p).status.startFaults = s.status.startFaults := by
  unfold offerInsert; (repeat' split) <;> simp
@[simp] theorem offerInsert_status_snapshot (s : State) (g : Nat) (d : Nat) (p : Nat) :
    (offerInsert s g d p).status.snapshot = s.status.snapshot := by
  unfold offerInsert; (repeat' split) <;> simp
@[simp] theorem offerInsert_status_attention (s : State) (g : Nat) (d : Nat) (p : Nat) :
    (offerInsert s g d p).status.attention = s.status.attention := by
  unfold offerInsert; (repeat' split) <;> simp
@[simp] theorem offerInsert_config_loaded (s : State) (g : Nat) (d : Nat) (p : Nat) :
    (offerInsert s g d p).config.loaded = s.config.loaded := by
  unfold offerInsert; (repeat' split) <;> simp
@[simp] theorem offerInsert_config_origin (s : State) (g : Nat) (d : Nat) (p : Nat) :
    (offerInsert s g d p).config.origin = s.config.origin := by
  unfold offerInsert; (repeat' split) <;> simp
@[simp] theorem offerInsert_config_adopting (s : State) (g : Nat) (d : Nat) (p : Nat) :
    (offerInsert s g d p).config.adopting = s.config.adopting := by
  unfold offerInsert; (repeat' split) <;> simp
@[simp] theorem offerInsert_config_buffer (s : State) (g : Nat) (d : Nat) (p : Nat) :
    (offerInsert s g d p).config.buffer = s.config.buffer := by
  unfold offerInsert; (repeat' split) <;> simp
@[simp] theorem offerInsert_config_readWaits (s : State) (g : Nat) (d : Nat) (p : Nat) :
    (offerInsert s g d p).config.readWaits = s.config.readWaits := by
  unfold offerInsert; (repeat' split) <;> simp
@[simp] theorem offerInsert_txn_op (s : State) (g : Nat) (d : Nat) (p : Nat) :
    (offerInsert s g d p).txn.op = s.txn.op := by
  unfold offerInsert; (repeat' split) <;> simp
@[simp] theorem offerInsert_txn_stage (s : State) (g : Nat) (d : Nat) (p : Nat) :
    (offerInsert s g d p).txn.stage = s.txn.stage := by
  unfold offerInsert; (repeat' split) <;> simp
@[simp] theorem offerInsert_txn_found (s : State) (g : Nat) (d : Nat) (p : Nat) :
    (offerInsert s g d p).txn.found = s.txn.found := by
  unfold offerInsert; (repeat' split) <;> simp
@[simp] theorem offerInsert_txn_headerWritten (s : State) (g : Nat) (d : Nat) (p : Nat) :
    (offerInsert s g d p).txn.headerWritten = s.txn.headerWritten := by
  unfold offerInsert; (repeat' split) <;> simp
@[simp] theorem offerInsert_txn_endState (s : State) (g : Nat) (d : Nat) (p : Nat) :
    (offerInsert s g d p).txn.endState = s.txn.endState := by
  unfold offerInsert; (repeat' split) <;> simp
@[simp] theorem offerInsert_port_inFlight (s : State) (g : Nat) (d : Nat) (p : Nat) :
    (offerInsert s g d p).port.inFlight = s.port.inFlight := by
  unfold offerInsert; (repeat' split) <;> simp
@[simp] theorem offerInsert_port_yieldLimit (s : State) (g : Nat) (d : Nat) (p : Nat) :
    (offerInsert s g d p).port.yieldLimit = s.port.yieldLimit := by
  unfold offerInsert; (repeat' split) <;> simp
@[simp] theorem offerInsert_port_strap (s : State) (g : Nat) (d : Nat) (p : Nat) :
    (offerInsert s g d p).port.strap = s.port.strap := by
  unfold offerInsert; (repeat' split) <;> simp
@[simp] theorem offerInsert_port_yieldControl (s : State) (g : Nat) (d : Nat) (p : Nat) :
    (offerInsert s g d p).port.yieldControl = s.port.yieldControl := by
  unfold offerInsert; (repeat' split) <;> simp
@[simp] theorem offerInsert_port_yieldEngine (s : State) (g : Nat) (d : Nat) (p : Nat) :
    (offerInsert s g d p).port.yieldEngine = s.port.yieldEngine := by
  unfold offerInsert; (repeat' split) <;> simp
@[simp] theorem offerInsert_port_claimHost (s : State) (g : Nat) (d : Nat) (p : Nat) :
    (offerInsert s g d p).port.claimHost = s.port.claimHost := by
  unfold offerInsert; (repeat' split) <;> simp
@[simp] theorem offerInsert_port_claimEngine (s : State) (g : Nat) (d : Nat) (p : Nat) :
    (offerInsert s g d p).port.claimEngine = s.port.claimEngine := by
  unfold offerInsert; (repeat' split) <;> simp

@[simp] theorem endExecution_status_queue (s : State) (r : Result) (d : ResultDetail) :
    (endExecution s r d).status.queue = s.status.queue := by
  unfold endExecution; (repeat' split) <;> simp
@[simp] theorem endExecution_status_dropped (s : State) (r : Result) (d : ResultDetail) :
    (endExecution s r d).status.dropped = s.status.dropped := by
  unfold endExecution; (repeat' split) <;> simp
@[simp] theorem endExecution_status_refused (s : State) (r : Result) (d : ResultDetail) :
    (endExecution s r d).status.refused = s.status.refused := by
  unfold endExecution; (repeat' split) <;> simp
@[simp] theorem endExecution_status_expired (s : State) (r : Result) (d : ResultDetail) :
    (endExecution s r d).status.expired = s.status.expired := by
  unfold endExecution; (repeat' split) <;> simp
@[simp] theorem endExecution_status_startFaults (s : State) (r : Result) (d : ResultDetail) :
    (endExecution s r d).status.startFaults = s.status.startFaults := by
  unfold endExecution; (repeat' split) <;> simp
@[simp] theorem endExecution_status_snapshot (s : State) (r : Result) (d : ResultDetail) :
    (endExecution s r d).status.snapshot = s.status.snapshot := by
  unfold endExecution; (repeat' split) <;> simp
@[simp] theorem endExecution_status_owed (s : State) (r : Result) (d : ResultDetail) :
    (endExecution s r d).status.owed = s.status.owed := by
  unfold endExecution; (repeat' split) <;> simp
@[simp] theorem endExecution_status_attention (s : State) (r : Result) (d : ResultDetail) :
    (endExecution s r d).status.attention = s.status.attention := by
  unfold endExecution; (repeat' split) <;> simp
@[simp] theorem endExecution_config_loaded (s : State) (r : Result) (d : ResultDetail) :
    (endExecution s r d).config.loaded = s.config.loaded := by
  unfold endExecution; (repeat' split) <;> simp
@[simp] theorem endExecution_config_origin (s : State) (r : Result) (d : ResultDetail) :
    (endExecution s r d).config.origin = s.config.origin := by
  unfold endExecution; (repeat' split) <;> simp
@[simp] theorem endExecution_config_adopting (s : State) (r : Result) (d : ResultDetail) :
    (endExecution s r d).config.adopting = s.config.adopting := by
  unfold endExecution; (repeat' split) <;> simp
@[simp] theorem endExecution_config_buffer (s : State) (r : Result) (d : ResultDetail) :
    (endExecution s r d).config.buffer = s.config.buffer := by
  unfold endExecution; (repeat' split) <;> simp
@[simp] theorem endExecution_config_readWaits (s : State) (r : Result) (d : ResultDetail) :
    (endExecution s r d).config.readWaits = s.config.readWaits := by
  unfold endExecution; (repeat' split) <;> simp
@[simp] theorem endExecution_txn_op (s : State) (r : Result) (d : ResultDetail) :
    (endExecution s r d).txn.op = s.txn.op := by
  unfold endExecution; (repeat' split) <;> simp
@[simp] theorem endExecution_txn_frames (s : State) (r : Result) (d : ResultDetail) :
    (endExecution s r d).txn.frames = s.txn.frames := by
  unfold endExecution; (repeat' split) <;> simp
@[simp] theorem endExecution_txn_found (s : State) (r : Result) (d : ResultDetail) :
    (endExecution s r d).txn.found = s.txn.found := by
  unfold endExecution; (repeat' split) <;> simp
@[simp] theorem endExecution_txn_headerWritten (s : State) (r : Result) (d : ResultDetail) :
    (endExecution s r d).txn.headerWritten = s.txn.headerWritten := by
  unfold endExecution; (repeat' split) <;> simp
@[simp] theorem endExecution_txn_endState (s : State) (r : Result) (d : ResultDetail) :
    (endExecution s r d).txn.endState = s.txn.endState := by
  unfold endExecution; (repeat' split) <;> simp
@[simp] theorem endExecution_port_inFlight (s : State) (r : Result) (d : ResultDetail) :
    (endExecution s r d).port.inFlight = s.port.inFlight := by
  unfold endExecution; (repeat' split) <;> simp
@[simp] theorem endExecution_port_yieldLimit (s : State) (r : Result) (d : ResultDetail) :
    (endExecution s r d).port.yieldLimit = s.port.yieldLimit := by
  unfold endExecution; (repeat' split) <;> simp
@[simp] theorem endExecution_port_strap (s : State) (r : Result) (d : ResultDetail) :
    (endExecution s r d).port.strap = s.port.strap := by
  unfold endExecution; (repeat' split) <;> simp
@[simp] theorem endExecution_port_yieldControl (s : State) (r : Result) (d : ResultDetail) :
    (endExecution s r d).port.yieldControl = s.port.yieldControl := by
  unfold endExecution; (repeat' split) <;> simp
@[simp] theorem endExecution_port_yieldEngine (s : State) (r : Result) (d : ResultDetail) :
    (endExecution s r d).port.yieldEngine = s.port.yieldEngine := by
  unfold endExecution; (repeat' split) <;> simp
@[simp] theorem endExecution_port_claimHost (s : State) (r : Result) (d : ResultDetail) :
    (endExecution s r d).port.claimHost = s.port.claimHost := by
  unfold endExecution; (repeat' split) <;> simp
@[simp] theorem endExecution_port_claimEngine (s : State) (r : Result) (d : ResultDetail) :
    (endExecution s r d).port.claimEngine = s.port.claimEngine := by
  unfold endExecution; (repeat' split) <;> simp

end Sys2Proof.Machine
end

