-- ==== Sys2Proof/Laws/Ops.lean ====
section
/-! SUPPORT. What the shared operations of Machine/Ops.lean do, each said once, so that later proofs cite it
and do not unfold the operation. -/

-- One declaration at a time: the package as one text then needs few threads.
set_option Elab.async false

namespace Sys2Proof.Machine

/-! ### Sequences of the control unit -/

@[simp] theorem State.setMem_sequences (s : State) (x : Memory) :
    (s.setMem x).sequences = s.sequences := rfl
@[simp] theorem State.setHost_sequences (s : State) (x : HostPort) :
    (s.setHost x).sequences = s.sequences := rfl
@[simp] theorem State.setDecoder_sequences (s : State) (x : Decoder) :
    (s.setDecoder x).sequences = s.sequences := rfl
@[simp] theorem State.setTxn_sequences (s : State) (x : Controller) :
    (s.setTxn x).sequences = s.sequences := rfl
@[simp] theorem State.setJournal_sequences (s : State) (x : Journal) :
    (s.setJournal x).sequences = s.sequences := rfl
@[simp] theorem State.setTracker_sequences (s : State) (x : List TrackerEntry) :
    (s.setTracker x).sequences = s.sequences := rfl
@[simp] theorem State.setEngine_sequences (s : State) (x : Engine) :
    (s.setEngine x).sequences = s.sequences := rfl
@[simp] theorem State.setPort_sequences (s : State) (x : Port) :
    (s.setPort x).sequences = s.sequences := rfl
@[simp] theorem State.setCommand_sequences (s : State) (x : CommandPort) :
    (s.setCommand x).sequences = s.sequences := rfl
@[simp] theorem State.setStatus_sequences (s : State) (x : Status) :
    (s.setStatus x).sequences = s.sequences := rfl
@[simp] theorem State.setConfig_sequences (s : State) (x : ConfigUnit) :
    (s.setConfig x).sequences = s.sequences := rfl
@[simp] theorem State.setWarning_sequences (s : State) (x : Bool) :
    (s.setWarning x).sequences = s.sequences := rfl
@[simp] theorem State.setResetting_sequences (s : State) (x : Bool) :
    (s.setResetting x).sequences = s.sequences := rfl
@[simp] theorem State.setFree_sequences (s : State) (x : Nat) :
    (s.setFree x).sequences = s.sequences := rfl
@[simp] theorem State.setPending_sequences (s : State) (x : List Instr) :
    (s.setPending x).sequences = s.sequences := rfl

@[simp] theorem prepareSequence_current (s : State) (k : Sequence) :
    (prepareSequence s k).control.current = s.control.current := by cases k <;> rfl

@[simp] theorem prepareSequence_waiting (s : State) (k : Sequence) :
    (prepareSequence s k).control.waiting = s.control.waiting := by cases k <;> rfl

@[simp] theorem prepareSequence_done (s : State) (k : Sequence) :
    (prepareSequence s k).control.done = s.control.done := by cases k <;> rfl

/-- A sequence that begins is the one in progress, at its first cycle, and is claimed for. -/
theorem beginSequence_spec (s : State) (k : Sequence) :
    (beginSequence s k).control.current = some k ∧ (beginSequence s k).control.done = 0 ∧
      (beginSequence s k).control.waiting = s.control.waiting ∧
      (beginSequence s k).port.claimControl = true := by
  refine ⟨?_, ?_, ?_, rfl⟩ <;> simp [beginSequence, State.claimControl]

/-- Every request adds its sequence at the end of those in hand (R114). -/
theorem requestSequence_sequences (s : State) (k : Sequence) :
    (requestSequence s k).sequences = s.sequences ++ [k] := by
  unfold requestSequence State.sequences
  split
  · rename_i h
    simp only [Bool.and_eq_true, Option.isNone_iff_eq_none, List.isEmpty_iff] at h
    have := beginSequence_spec s k
    simp [this.1, this.2.2.1, h.1, h.2]
  · simp

/-- A request at an idle control unit with nothing waiting is begun and claimed for. -/
theorem requestSequence_idle (s : State) (k : Sequence) (h : s.control.current = none)
    (h' : s.control.waiting = []) : requestSequence s k = beginSequence s k := by
  simp [requestSequence, h, h']

/-- A request while a sequence is in progress or waits joins those that wait. -/
theorem requestSequence_busy (s : State) (k : Sequence)
    (h : s.control.current.isSome = true ∨ s.control.waiting ≠ []) :
    requestSequence s k = s.setControl { s.control with waiting := s.control.waiting ++ [k] } := by
  unfold requestSequence
  rw [if_neg]
  simp only [Bool.and_eq_true, Option.isNone_iff_eq_none, List.isEmpty_iff]
  rintro ⟨h1, h2⟩
  rcases h with h | h <;> simp_all

/-- When a sequence ends, those that waited remain. -/
theorem endSequence_sequences (s : State) : (endSequence s).sequences = s.control.waiting := rfl

/-- A sequence that goes on stays in hand. -/
theorem continueSequence_sequences (s : State) : (continueSequence s).sequences = s.sequences := rfl

/-! ### Raises (R144, R151) -/

/-- A raise reaches the queue by the three cases of R151, whatever its update. -/
@[simp] theorem raiseEvent_queue (s : State) (k : EventKind) (d : EventDetail) (a : Option Nat) :
    (raiseEvent s k d a).status.queue = (takeRaise s.status k d a).queue := by simp [raiseEvent]

/-- The dropped counter after a raise. -/
@[simp] theorem raiseEvent_dropped (s : State) (k : EventKind) (d : EventDetail) (a : Option Nat) :
    (raiseEvent s k d a).status.dropped = (takeRaise s.status k d a).dropped := by simp [raiseEvent]

/-- A raise requests at most one sequence, a raise update. -/
theorem raiseEvent_sequences (s : State) (k : EventKind) (d : EventDetail) (a : Option Nat) :
    (raiseEvent s k d a).sequences = s.sequences ∨
      (raiseEvent s k d a).sequences = s.sequences ++ [.update .raise] := by
  unfold raiseEvent updateForRaise requestRaiseUpdate
  (repeat' split) <;> simp [requestSequence_sequences]

/-- A negation of the power warning requests at most one sequence, a raise update (R144). -/
theorem updateForNegation_sequences (s : State) :
    (updateForNegation s).sequences = s.sequences ∨
      (updateForNegation s).sequences = s.sequences ++ [.update .raise] := by
  unfold updateForNegation requestRaiseUpdate
  (repeat' split) <;> simp [requestSequence_sequences]

/-! ### The end of a command's execution (R128) -/

/-- With a command in flight, its outcome is captured with the depth, the epoch and N, and nothing else of the
transaction controller changes. -/
theorem endExecution_txn (s : State) (r : Result) (d : ResultDetail) (cmd : Command) (q : Half)
    (h : s.command.inFlight = some (cmd, q)) :
    (endExecution s r d).txn = { s.txn with
      stage := .ended { command := cmd, seq := q, result := r, detail := d, depth := s.depth,
                        epoch := s.journal.epoch, n := s.journal.n } } := by
  simp [endExecution, h]

/-- With a command in flight, its update joins the sequences in hand. -/
theorem endExecution_sequences (s : State) (r : Result) (d : ResultDetail) (cmd : Command) (q : Half)
    (h : s.command.inFlight = some (cmd, q)) :
    (endExecution s r d).sequences = s.sequences ++ [.update .command] := by
  simp [endExecution, h, requestSequence_sequences]

/-! ### The end of a host cycle (R68) -/

/-- A cycle that ends with a fault leaves no cycle, no hold and HFAULT asserted. -/
theorem endWithFault_host (s : State) (h : s.host.cycle.isSome = true) :
    (endWithFault s).host.cycle = none ∧ (endWithFault s).host.hold = none ∧
      (endWithFault s).host.hfault = true := by
  unfold endWithFault
  split
  · simp_all
  · split <;> simp

/-- A cycle that ends normally leaves no cycle and no hold, with HFAULT negated; a read returns the byte. -/
theorem endNormally_host (s : State) (b : Byte) (c : HostCycle) (h : s.host.cycle = some c) :
    (endNormally s b).host =
      { cycle := none, hold := none, hfault := false,
        data := if c.isWrite then s.host.data else b } := by
  simp [endNormally, h]

/-- A refused write: its event, the refused-write counter, the short mark outside COMMITTING, and the fault on
the bus (R87). -/
theorem refuseWrite_spec (s : State) (r : WriteReason) (c : HostCycle) (h : s.host.cycle = some c) :
    (refuseWrite s r).status.queue = (raiseRefusal s r c.addr).status.queue ∧
      (refuseWrite s r).status.refused = sat16 s.status.refused ∧
      (refuseWrite s r).txn = (markShort s).txn ∧
      (refuseWrite s r).host.cycle = none ∧ (refuseWrite s r).host.hold = none ∧
      (refuseWrite s r).host.hfault = true := by
  have hf := endWithFault_host (markShort ((raiseRefusal s r c.addr).setStatus
    { (raiseRefusal s r c.addr).status with
      refused := sat16 (raiseRefusal s r c.addr).status.refused })) (by simp [h])
  refine ⟨?_, ?_, ?_, ?_, ?_, ?_⟩
  · simp [refuseWrite, h]
  · simp [refuseWrite, h]
  · simp [refuseWrite, h, markShort]; split <;> simp_all
  · simpa [refuseWrite, h] using hf.1
  · simpa [refuseWrite, h] using hf.2.1
  · simpa [refuseWrite, h] using hf.2.2

/-! ### The tracker's table -/

/-- Every entry left by a merge stands for an entry of the table, at the same granule and index, at its own
depth or, from the merged depth, one lower (R54). -/
theorem mem_trackerMerge (t : List TrackerEntry) (d : Nat) (x : TrackerEntry)
    (h : x ∈ trackerMerge t d) :
    ∃ e ∈ t, x.granule = e.granule ∧ x.index = e.index ∧
      ((e.depth ≠ d ∧ x = e) ∨
        (e.depth = d ∧ x.depth = d - 1 ∧ trackerHit t e.granule (d - 1) = false)) := by
  simp only [trackerMerge, List.mem_filterMap] at h
  obtain ⟨e, he, hm⟩ := h
  refine ⟨e, he, ?_⟩
  unfold mergeEntry at hm
  split at hm
  · split at hm
    · cases hm
    · cases hm; simp_all
  · cases hm; simp_all

/-- Pending marks change no granule, depth or index (R57). -/
theorem trackerMark_keys (t : List TrackerEntry) (d : Nat) :
    (trackerMark t d).map (fun e => (e.granule, e.depth, e.index)) =
      t.map (fun e => (e.granule, e.depth, e.index)) := by
  simp [trackerMark, Function.comp_def]

end Sys2Proof.Machine
end

