-- ==== Sys2Proof/Laws/PortFrames.lean ====
section
/-! SUPPORT. What the status unit's cycles and the memory port leave unchanged, block by block. -/

-- One declaration at a time: the package as one text then needs few threads.
set_option Elab.async false

namespace Sys2Proof.Machine

@[simp] theorem captureLive_mem (s : State) (k : UpdateKind) (i : Nat) :
    (captureLive s k i).mem = s.mem := by
  unfold captureLive; (repeat' split) <;> simp
@[simp] theorem captureLive_host (s : State) (k : UpdateKind) (i : Nat) :
    (captureLive s k i).host = s.host := by
  unfold captureLive; (repeat' split) <;> simp
@[simp] theorem captureLive_decoder (s : State) (k : UpdateKind) (i : Nat) :
    (captureLive s k i).decoder = s.decoder := by
  unfold captureLive; (repeat' split) <;> simp
@[simp] theorem captureLive_txn (s : State) (k : UpdateKind) (i : Nat) :
    (captureLive s k i).txn = s.txn := by
  unfold captureLive; (repeat' split) <;> simp
@[simp] theorem captureLive_journal (s : State) (k : UpdateKind) (i : Nat) :
    (captureLive s k i).journal = s.journal := by
  unfold captureLive; (repeat' split) <;> simp
@[simp] theorem captureLive_tracker (s : State) (k : UpdateKind) (i : Nat) :
    (captureLive s k i).tracker = s.tracker := by
  unfold captureLive; (repeat' split) <;> simp
@[simp] theorem captureLive_engine (s : State) (k : UpdateKind) (i : Nat) :
    (captureLive s k i).engine = s.engine := by
  unfold captureLive; (repeat' split) <;> simp
@[simp] theorem captureLive_port (s : State) (k : UpdateKind) (i : Nat) :
    (captureLive s k i).port = s.port := by
  unfold captureLive; (repeat' split) <;> simp
@[simp] theorem captureLive_control (s : State) (k : UpdateKind) (i : Nat) :
    (captureLive s k i).control = s.control := by
  unfold captureLive; (repeat' split) <;> simp
@[simp] theorem captureLive_command (s : State) (k : UpdateKind) (i : Nat) :
    (captureLive s k i).command = s.command := by
  unfold captureLive; (repeat' split) <;> simp
@[simp] theorem captureLive_config (s : State) (k : UpdateKind) (i : Nat) :
    (captureLive s k i).config = s.config := by
  unfold captureLive; (repeat' split) <;> simp
@[simp] theorem captureLive_warning (s : State) (k : UpdateKind) (i : Nat) :
    (captureLive s k i).warning = s.warning := by
  unfold captureLive; (repeat' split) <;> simp
@[simp] theorem captureLive_resetting (s : State) (k : UpdateKind) (i : Nat) :
    (captureLive s k i).resetting = s.resetting := by
  unfold captureLive; (repeat' split) <;> simp
@[simp] theorem captureLive_free (s : State) (k : UpdateKind) (i : Nat) :
    (captureLive s k i).free = s.free := by
  unfold captureLive; (repeat' split) <;> simp
@[simp] theorem captureLive_pending (s : State) (k : UpdateKind) (i : Nat) :
    (captureLive s k i).pending = s.pending := by
  unfold captureLive; (repeat' split) <;> simp

@[simp] theorem captureNumber_mem (s : State) (i : Nat) : (captureNumber s i).mem = s.mem := by
  unfold captureNumber; (repeat' split) <;> simp
@[simp] theorem captureNumber_host (s : State) (i : Nat) : (captureNumber s i).host = s.host := by
  unfold captureNumber; (repeat' split) <;> simp
@[simp] theorem captureNumber_decoder (s : State) (i : Nat) :
    (captureNumber s i).decoder = s.decoder := by
  unfold captureNumber; (repeat' split) <;> simp
@[simp] theorem captureNumber_txn (s : State) (i : Nat) : (captureNumber s i).txn = s.txn := by
  unfold captureNumber; (repeat' split) <;> simp
@[simp] theorem captureNumber_journal (s : State) (i : Nat) :
    (captureNumber s i).journal = s.journal := by
  unfold captureNumber; (repeat' split) <;> simp
@[simp] theorem captureNumber_tracker (s : State) (i : Nat) :
    (captureNumber s i).tracker = s.tracker := by
  unfold captureNumber; (repeat' split) <;> simp
@[simp] theorem captureNumber_engine (s : State) (i : Nat) :
    (captureNumber s i).engine = s.engine := by
  unfold captureNumber; (repeat' split) <;> simp
@[simp] theorem captureNumber_port (s : State) (i : Nat) : (captureNumber s i).port = s.port := by
  unfold captureNumber; (repeat' split) <;> simp
@[simp] theorem captureNumber_control (s : State) (i : Nat) :
    (captureNumber s i).control = s.control := by
  unfold captureNumber; (repeat' split) <;> simp
@[simp] theorem captureNumber_command (s : State) (i : Nat) :
    (captureNumber s i).command = s.command := by
  unfold captureNumber; (repeat' split) <;> simp
@[simp] theorem captureNumber_config (s : State) (i : Nat) :
    (captureNumber s i).config = s.config := by
  unfold captureNumber; (repeat' split) <;> simp
@[simp] theorem captureNumber_warning (s : State) (i : Nat) :
    (captureNumber s i).warning = s.warning := by
  unfold captureNumber; (repeat' split) <;> simp
@[simp] theorem captureNumber_resetting (s : State) (i : Nat) :
    (captureNumber s i).resetting = s.resetting := by
  unfold captureNumber; (repeat' split) <;> simp
@[simp] theorem captureNumber_free (s : State) (i : Nat) : (captureNumber s i).free = s.free := by
  unfold captureNumber; (repeat' split) <;> simp
@[simp] theorem captureNumber_pending (s : State) (i : Nat) :
    (captureNumber s i).pending = s.pending := by
  unfold captureNumber; (repeat' split) <;> simp

@[simp] theorem captureArea_mem (s : State) (i : Nat) : (captureArea s i).mem = s.mem := by
  unfold captureArea; (repeat' split) <;> simp
@[simp] theorem captureArea_host (s : State) (i : Nat) : (captureArea s i).host = s.host := by
  unfold captureArea; (repeat' split) <;> simp
@[simp] theorem captureArea_decoder (s : State) (i : Nat) :
    (captureArea s i).decoder = s.decoder := by
  unfold captureArea; (repeat' split) <;> simp
@[simp] theorem captureArea_txn (s : State) (i : Nat) : (captureArea s i).txn = s.txn := by
  unfold captureArea; (repeat' split) <;> simp
@[simp] theorem captureArea_journal (s : State) (i : Nat) :
    (captureArea s i).journal = s.journal := by
  unfold captureArea; (repeat' split) <;> simp
@[simp] theorem captureArea_tracker (s : State) (i : Nat) :
    (captureArea s i).tracker = s.tracker := by
  unfold captureArea; (repeat' split) <;> simp
@[simp] theorem captureArea_engine (s : State) (i : Nat) : (captureArea s i).engine = s.engine := by
  unfold captureArea; (repeat' split) <;> simp
@[simp] theorem captureArea_port (s : State) (i : Nat) : (captureArea s i).port = s.port := by
  unfold captureArea; (repeat' split) <;> simp
@[simp] theorem captureArea_control (s : State) (i : Nat) :
    (captureArea s i).control = s.control := by
  unfold captureArea; (repeat' split) <;> simp
@[simp] theorem captureArea_command (s : State) (i : Nat) :
    (captureArea s i).command = s.command := by
  unfold captureArea; (repeat' split) <;> simp
@[simp] theorem captureArea_config (s : State) (i : Nat) : (captureArea s i).config = s.config := by
  unfold captureArea; (repeat' split) <;> simp
@[simp] theorem captureArea_warning (s : State) (i : Nat) :
    (captureArea s i).warning = s.warning := by
  unfold captureArea; (repeat' split) <;> simp
@[simp] theorem captureArea_resetting (s : State) (i : Nat) :
    (captureArea s i).resetting = s.resetting := by
  unfold captureArea; (repeat' split) <;> simp
@[simp] theorem captureArea_free (s : State) (i : Nat) : (captureArea s i).free = s.free := by
  unfold captureArea; (repeat' split) <;> simp
@[simp] theorem captureArea_pending (s : State) (i : Nat) :
    (captureArea s i).pending = s.pending := by
  unfold captureArea; (repeat' split) <;> simp

@[simp] theorem captureResult_mem (s : State) (i : Nat) : (captureResult s i).mem = s.mem := by
  unfold captureResult; (repeat' split) <;> simp
@[simp] theorem captureResult_host (s : State) (i : Nat) : (captureResult s i).host = s.host := by
  unfold captureResult; (repeat' split) <;> simp
@[simp] theorem captureResult_decoder (s : State) (i : Nat) :
    (captureResult s i).decoder = s.decoder := by
  unfold captureResult; (repeat' split) <;> simp
@[simp] theorem captureResult_txn (s : State) (i : Nat) : (captureResult s i).txn = s.txn := by
  unfold captureResult; (repeat' split) <;> simp
@[simp] theorem captureResult_journal (s : State) (i : Nat) :
    (captureResult s i).journal = s.journal := by
  unfold captureResult; (repeat' split) <;> simp
@[simp] theorem captureResult_tracker (s : State) (i : Nat) :
    (captureResult s i).tracker = s.tracker := by
  unfold captureResult; (repeat' split) <;> simp
@[simp] theorem captureResult_engine (s : State) (i : Nat) :
    (captureResult s i).engine = s.engine := by
  unfold captureResult; (repeat' split) <;> simp
@[simp] theorem captureResult_port (s : State) (i : Nat) : (captureResult s i).port = s.port := by
  unfold captureResult; (repeat' split) <;> simp
@[simp] theorem captureResult_control (s : State) (i : Nat) :
    (captureResult s i).control = s.control := by
  unfold captureResult; (repeat' split) <;> simp
@[simp] theorem captureResult_config (s : State) (i : Nat) :
    (captureResult s i).config = s.config := by
  unfold captureResult; (repeat' split) <;> simp
@[simp] theorem captureResult_warning (s : State) (i : Nat) :
    (captureResult s i).warning = s.warning := by
  unfold captureResult; (repeat' split) <;> simp
@[simp] theorem captureResult_resetting (s : State) (i : Nat) :
    (captureResult s i).resetting = s.resetting := by
  unfold captureResult; (repeat' split) <;> simp
@[simp] theorem captureResult_free (s : State) (i : Nat) : (captureResult s i).free = s.free := by
  unfold captureResult; (repeat' split) <;> simp
@[simp] theorem captureResult_pending (s : State) (i : Nat) :
    (captureResult s i).pending = s.pending := by
  unfold captureResult; (repeat' split) <;> simp

@[simp] theorem captureUpdate_mem (s : State) (k : UpdateKind) :
    (captureUpdate s k).mem = s.mem := by simp [captureUpdate]
@[simp] theorem captureUpdate_host (s : State) (k : UpdateKind) :
    (captureUpdate s k).host = s.host := by simp [captureUpdate]
@[simp] theorem captureUpdate_decoder (s : State) (k : UpdateKind) :
    (captureUpdate s k).decoder = s.decoder := by simp [captureUpdate]
@[simp] theorem captureUpdate_txn (s : State) (k : UpdateKind) :
    (captureUpdate s k).txn = s.txn := by simp [captureUpdate]
@[simp] theorem captureUpdate_journal (s : State) (k : UpdateKind) :
    (captureUpdate s k).journal = s.journal := by simp [captureUpdate]
@[simp] theorem captureUpdate_tracker (s : State) (k : UpdateKind) :
    (captureUpdate s k).tracker = s.tracker := by simp [captureUpdate]
@[simp] theorem captureUpdate_engine (s : State) (k : UpdateKind) :
    (captureUpdate s k).engine = s.engine := by simp [captureUpdate]
@[simp] theorem captureUpdate_port (s : State) (k : UpdateKind) :
    (captureUpdate s k).port = s.port := by simp [captureUpdate]
@[simp] theorem captureUpdate_control (s : State) (k : UpdateKind) :
    (captureUpdate s k).control = s.control := by simp [captureUpdate]
@[simp] theorem captureUpdate_config (s : State) (k : UpdateKind) :
    (captureUpdate s k).config = s.config := by simp [captureUpdate]
@[simp] theorem captureUpdate_warning (s : State) (k : UpdateKind) :
    (captureUpdate s k).warning = s.warning := by simp [captureUpdate]
@[simp] theorem captureUpdate_resetting (s : State) (k : UpdateKind) :
    (captureUpdate s k).resetting = s.resetting := by simp [captureUpdate]
@[simp] theorem captureUpdate_free (s : State) (k : UpdateKind) :
    (captureUpdate s k).free = s.free := by simp [captureUpdate]
@[simp] theorem captureUpdate_pending (s : State) (k : UpdateKind) :
    (captureUpdate s k).pending = s.pending := by simp [captureUpdate]

@[simp] theorem snapshotAfter_mem (s : State) (b : Byte) : (snapshotAfter s b).mem = s.mem := by
  unfold snapshotAfter; dsimp only; (repeat' split) <;> simp
@[simp] theorem snapshotAfter_host (s : State) (b : Byte) : (snapshotAfter s b).host = s.host := by
  unfold snapshotAfter; dsimp only; (repeat' split) <;> simp
@[simp] theorem snapshotAfter_decoder (s : State) (b : Byte) :
    (snapshotAfter s b).decoder = s.decoder := by
  unfold snapshotAfter; dsimp only; (repeat' split) <;> simp
@[simp] theorem snapshotAfter_txn (s : State) (b : Byte) : (snapshotAfter s b).txn = s.txn := by
  unfold snapshotAfter; dsimp only; (repeat' split) <;> simp
@[simp] theorem snapshotAfter_journal (s : State) (b : Byte) :
    (snapshotAfter s b).journal = s.journal := by
  unfold snapshotAfter; dsimp only; (repeat' split) <;> simp
@[simp] theorem snapshotAfter_tracker (s : State) (b : Byte) :
    (snapshotAfter s b).tracker = s.tracker := by
  unfold snapshotAfter; dsimp only; (repeat' split) <;> simp
@[simp] theorem snapshotAfter_engine (s : State) (b : Byte) :
    (snapshotAfter s b).engine = s.engine := by
  unfold snapshotAfter; dsimp only; (repeat' split) <;> simp
@[simp] theorem snapshotAfter_port (s : State) (b : Byte) : (snapshotAfter s b).port = s.port := by
  unfold snapshotAfter; dsimp only; (repeat' split) <;> simp
@[simp] theorem snapshotAfter_command (s : State) (b : Byte) :
    (snapshotAfter s b).command = s.command := by
  unfold snapshotAfter; dsimp only; (repeat' split) <;> simp
@[simp] theorem snapshotAfter_config (s : State) (b : Byte) :
    (snapshotAfter s b).config = s.config := by
  unfold snapshotAfter; dsimp only; (repeat' split) <;> simp
@[simp] theorem snapshotAfter_warning (s : State) (b : Byte) :
    (snapshotAfter s b).warning = s.warning := by
  unfold snapshotAfter; dsimp only; (repeat' split) <;> simp
@[simp] theorem snapshotAfter_resetting (s : State) (b : Byte) :
    (snapshotAfter s b).resetting = s.resetting := by
  unfold snapshotAfter; dsimp only; (repeat' split) <;> simp
@[simp] theorem snapshotAfter_free (s : State) (b : Byte) : (snapshotAfter s b).free = s.free := by
  unfold snapshotAfter; dsimp only; (repeat' split) <;> simp
@[simp] theorem snapshotAfter_pending (s : State) (b : Byte) :
    (snapshotAfter s b).pending = s.pending := by
  unfold snapshotAfter; dsimp only; (repeat' split) <;> simp

@[simp] theorem attentionAfter_mem (s : State) : (attentionAfter s).mem = s.mem := by
  unfold attentionAfter; (repeat' split) <;> simp
@[simp] theorem attentionAfter_host (s : State) : (attentionAfter s).host = s.host := by
  unfold attentionAfter; (repeat' split) <;> simp
@[simp] theorem attentionAfter_decoder (s : State) : (attentionAfter s).decoder = s.decoder := by
  unfold attentionAfter; (repeat' split) <;> simp
@[simp] theorem attentionAfter_txn (s : State) : (attentionAfter s).txn = s.txn := by
  unfold attentionAfter; (repeat' split) <;> simp
@[simp] theorem attentionAfter_journal (s : State) : (attentionAfter s).journal = s.journal := by
  unfold attentionAfter; (repeat' split) <;> simp
@[simp] theorem attentionAfter_tracker (s : State) : (attentionAfter s).tracker = s.tracker := by
  unfold attentionAfter; (repeat' split) <;> simp
@[simp] theorem attentionAfter_engine (s : State) : (attentionAfter s).engine = s.engine := by
  unfold attentionAfter; (repeat' split) <;> simp
@[simp] theorem attentionAfter_port (s : State) : (attentionAfter s).port = s.port := by
  unfold attentionAfter; (repeat' split) <;> simp
@[simp] theorem attentionAfter_control (s : State) : (attentionAfter s).control = s.control := by
  unfold attentionAfter; (repeat' split) <;> simp
@[simp] theorem attentionAfter_command (s : State) : (attentionAfter s).command = s.command := by
  unfold attentionAfter; (repeat' split) <;> simp
@[simp] theorem attentionAfter_config (s : State) : (attentionAfter s).config = s.config := by
  unfold attentionAfter; (repeat' split) <;> simp
@[simp] theorem attentionAfter_warning (s : State) : (attentionAfter s).warning = s.warning := by
  unfold attentionAfter; (repeat' split) <;> simp
@[simp] theorem attentionAfter_resetting (s : State) :
    (attentionAfter s).resetting = s.resetting := by
  unfold attentionAfter; (repeat' split) <;> simp
@[simp] theorem attentionAfter_free (s : State) : (attentionAfter s).free = s.free := by
  unfold attentionAfter; (repeat' split) <;> simp
@[simp] theorem attentionAfter_pending (s : State) : (attentionAfter s).pending = s.pending := by
  unfold attentionAfter; (repeat' split) <;> simp

@[simp] theorem updateCycleEffects_mem (s : State) (b : Byte) :
    (updateCycleEffects s b).mem = s.mem := by simp [updateCycleEffects]
@[simp] theorem updateCycleEffects_host (s : State) (b : Byte) :
    (updateCycleEffects s b).host = s.host := by simp [updateCycleEffects]
@[simp] theorem updateCycleEffects_decoder (s : State) (b : Byte) :
    (updateCycleEffects s b).decoder = s.decoder := by simp [updateCycleEffects]
@[simp] theorem updateCycleEffects_txn (s : State) (b : Byte) :
    (updateCycleEffects s b).txn = s.txn := by simp [updateCycleEffects]
@[simp] theorem updateCycleEffects_journal (s : State) (b : Byte) :
    (updateCycleEffects s b).journal = s.journal := by simp [updateCycleEffects]
@[simp] theorem updateCycleEffects_tracker (s : State) (b : Byte) :
    (updateCycleEffects s b).tracker = s.tracker := by simp [updateCycleEffects]
@[simp] theorem updateCycleEffects_engine (s : State) (b : Byte) :
    (updateCycleEffects s b).engine = s.engine := by simp [updateCycleEffects]
@[simp] theorem updateCycleEffects_port (s : State) (b : Byte) :
    (updateCycleEffects s b).port = s.port := by simp [updateCycleEffects]
@[simp] theorem updateCycleEffects_command (s : State) (b : Byte) :
    (updateCycleEffects s b).command = s.command := by simp [updateCycleEffects]
@[simp] theorem updateCycleEffects_config (s : State) (b : Byte) :
    (updateCycleEffects s b).config = s.config := by simp [updateCycleEffects]
@[simp] theorem updateCycleEffects_warning (s : State) (b : Byte) :
    (updateCycleEffects s b).warning = s.warning := by simp [updateCycleEffects]
@[simp] theorem updateCycleEffects_resetting (s : State) (b : Byte) :
    (updateCycleEffects s b).resetting = s.resetting := by simp [updateCycleEffects]
@[simp] theorem updateCycleEffects_free (s : State) (b : Byte) :
    (updateCycleEffects s b).free = s.free := by simp [updateCycleEffects]
@[simp] theorem updateCycleEffects_pending (s : State) (b : Byte) :
    (updateCycleEffects s b).pending = s.pending := by simp [updateCycleEffects]

@[simp] theorem commandUpdateEnds_mem (s : State) :
    (commandUpdateEnds s).mem = s.mem := by simp [commandUpdateEnds]
@[simp] theorem commandUpdateEnds_host (s : State) :
    (commandUpdateEnds s).host = s.host := by simp [commandUpdateEnds]
@[simp] theorem commandUpdateEnds_decoder (s : State) :
    (commandUpdateEnds s).decoder = s.decoder := by simp [commandUpdateEnds]
@[simp] theorem commandUpdateEnds_journal (s : State) :
    (commandUpdateEnds s).journal = s.journal := by simp [commandUpdateEnds]
@[simp] theorem commandUpdateEnds_tracker (s : State) :
    (commandUpdateEnds s).tracker = s.tracker := by simp [commandUpdateEnds]
@[simp] theorem commandUpdateEnds_engine (s : State) :
    (commandUpdateEnds s).engine = s.engine := by simp [commandUpdateEnds]
@[simp] theorem commandUpdateEnds_port (s : State) :
    (commandUpdateEnds s).port = s.port := by simp [commandUpdateEnds]
@[simp] theorem commandUpdateEnds_control (s : State) :
    (commandUpdateEnds s).control = s.control := by simp [commandUpdateEnds]
@[simp] theorem commandUpdateEnds_status (s : State) :
    (commandUpdateEnds s).status = s.status := by simp [commandUpdateEnds]
@[simp] theorem commandUpdateEnds_config (s : State) :
    (commandUpdateEnds s).config = s.config := by simp [commandUpdateEnds]
@[simp] theorem commandUpdateEnds_warning (s : State) :
    (commandUpdateEnds s).warning = s.warning := by simp [commandUpdateEnds]
@[simp] theorem commandUpdateEnds_resetting (s : State) :
    (commandUpdateEnds s).resetting = s.resetting := by simp [commandUpdateEnds]
@[simp] theorem commandUpdateEnds_free (s : State) :
    (commandUpdateEnds s).free = s.free := by simp [commandUpdateEnds]
@[simp] theorem commandUpdateEnds_pending (s : State) :
    (commandUpdateEnds s).pending = s.pending := by simp [commandUpdateEnds]

@[simp] theorem startupEnds_mem (s : State) : (startupEnds s).mem = s.mem := by
  unfold startupEnds; (repeat' split) <;> simp
@[simp] theorem startupEnds_host (s : State) : (startupEnds s).host = s.host := by
  unfold startupEnds; (repeat' split) <;> simp
@[simp] theorem startupEnds_decoder (s : State) : (startupEnds s).decoder = s.decoder := by
  unfold startupEnds; (repeat' split) <;> simp
@[simp] theorem startupEnds_journal (s : State) : (startupEnds s).journal = s.journal := by
  unfold startupEnds; (repeat' split) <;> simp
@[simp] theorem startupEnds_tracker (s : State) : (startupEnds s).tracker = s.tracker := by
  unfold startupEnds; (repeat' split) <;> simp
@[simp] theorem startupEnds_engine (s : State) : (startupEnds s).engine = s.engine := by
  unfold startupEnds; (repeat' split) <;> simp
@[simp] theorem startupEnds_port (s : State) : (startupEnds s).port = s.port := by
  unfold startupEnds; (repeat' split) <;> simp
@[simp] theorem startupEnds_control (s : State) : (startupEnds s).control = s.control := by
  unfold startupEnds; (repeat' split) <;> simp
@[simp] theorem startupEnds_status (s : State) : (startupEnds s).status = s.status := by
  unfold startupEnds; (repeat' split) <;> simp
@[simp] theorem startupEnds_config (s : State) : (startupEnds s).config = s.config := by
  unfold startupEnds; (repeat' split) <;> simp
@[simp] theorem startupEnds_warning (s : State) : (startupEnds s).warning = s.warning := by
  unfold startupEnds; (repeat' split) <;> simp
@[simp] theorem startupEnds_resetting (s : State) : (startupEnds s).resetting = s.resetting := by
  unfold startupEnds; (repeat' split) <;> simp
@[simp] theorem startupEnds_free (s : State) : (startupEnds s).free = s.free := by
  unfold startupEnds; (repeat' split) <;> simp
@[simp] theorem startupEnds_pending (s : State) : (startupEnds s).pending = s.pending := by
  unfold startupEnds; (repeat' split) <;> simp

@[simp] theorem updateEnds_mem (s : State) (x0 : UpdateKind) : (updateEnds s x0).mem = s.mem := by
  unfold updateEnds; (repeat' split) <;> simp
@[simp] theorem updateEnds_host (s : State) (x0 : UpdateKind) :
    (updateEnds s x0).host = s.host := by
  unfold updateEnds; (repeat' split) <;> simp
@[simp] theorem updateEnds_decoder (s : State) (x0 : UpdateKind) :
    (updateEnds s x0).decoder = s.decoder := by
  unfold updateEnds; (repeat' split) <;> simp
@[simp] theorem updateEnds_journal (s : State) (x0 : UpdateKind) :
    (updateEnds s x0).journal = s.journal := by
  unfold updateEnds; (repeat' split) <;> simp
@[simp] theorem updateEnds_tracker (s : State) (x0 : UpdateKind) :
    (updateEnds s x0).tracker = s.tracker := by
  unfold updateEnds; (repeat' split) <;> simp
@[simp] theorem updateEnds_engine (s : State) (x0 : UpdateKind) :
    (updateEnds s x0).engine = s.engine := by
  unfold updateEnds; (repeat' split) <;> simp
@[simp] theorem updateEnds_port (s : State) (x0 : UpdateKind) :
    (updateEnds s x0).port = s.port := by
  unfold updateEnds; (repeat' split) <;> simp
@[simp] theorem updateEnds_control (s : State) (x0 : UpdateKind) :
    (updateEnds s x0).control = s.control := by
  unfold updateEnds; (repeat' split) <;> simp
@[simp] theorem updateEnds_status (s : State) (x0 : UpdateKind) :
    (updateEnds s x0).status = s.status := by
  unfold updateEnds; (repeat' split) <;> simp
@[simp] theorem updateEnds_config (s : State) (x0 : UpdateKind) :
    (updateEnds s x0).config = s.config := by
  unfold updateEnds; (repeat' split) <;> simp
@[simp] theorem updateEnds_warning (s : State) (x0 : UpdateKind) :
    (updateEnds s x0).warning = s.warning := by
  unfold updateEnds; (repeat' split) <;> simp
@[simp] theorem updateEnds_resetting (s : State) (x0 : UpdateKind) :
    (updateEnds s x0).resetting = s.resetting := by
  unfold updateEnds; (repeat' split) <;> simp
@[simp] theorem updateEnds_free (s : State) (x0 : UpdateKind) :
    (updateEnds s x0).free = s.free := by
  unfold updateEnds; (repeat' split) <;> simp
@[simp] theorem updateEnds_pending (s : State) (x0 : UpdateKind) :
    (updateEnds s x0).pending = s.pending := by
  unfold updateEnds; (repeat' split) <;> simp

@[simp] theorem grantHost_mem (s : State) : (grantHost s).mem = s.mem := by
  unfold grantHost; (repeat' split) <;> simp
@[simp] theorem grantHost_decoder (s : State) : (grantHost s).decoder = s.decoder := by
  unfold grantHost; (repeat' split) <;> simp
@[simp] theorem grantHost_txn (s : State) : (grantHost s).txn = s.txn := by
  unfold grantHost; (repeat' split) <;> simp
@[simp] theorem grantHost_journal (s : State) : (grantHost s).journal = s.journal := by
  unfold grantHost; (repeat' split) <;> simp
@[simp] theorem grantHost_tracker (s : State) : (grantHost s).tracker = s.tracker := by
  unfold grantHost; (repeat' split) <;> simp
@[simp] theorem grantHost_engine (s : State) : (grantHost s).engine = s.engine := by
  unfold grantHost; (repeat' split) <;> simp
@[simp] theorem grantHost_control (s : State) : (grantHost s).control = s.control := by
  unfold grantHost; (repeat' split) <;> simp
@[simp] theorem grantHost_command (s : State) : (grantHost s).command = s.command := by
  unfold grantHost; (repeat' split) <;> simp
@[simp] theorem grantHost_status (s : State) : (grantHost s).status = s.status := by
  unfold grantHost; (repeat' split) <;> simp
@[simp] theorem grantHost_config (s : State) : (grantHost s).config = s.config := by
  unfold grantHost; (repeat' split) <;> simp
@[simp] theorem grantHost_warning (s : State) : (grantHost s).warning = s.warning := by
  unfold grantHost; (repeat' split) <;> simp
@[simp] theorem grantHost_resetting (s : State) : (grantHost s).resetting = s.resetting := by
  unfold grantHost; (repeat' split) <;> simp
@[simp] theorem grantHost_free (s : State) : (grantHost s).free = s.free := by
  unfold grantHost; (repeat' split) <;> simp
@[simp] theorem grantHost_pending (s : State) : (grantHost s).pending = s.pending := by
  unfold grantHost; (repeat' split) <;> simp

@[simp] theorem captureControl_mem (s : State) : (captureControl s).mem = s.mem := by
  unfold captureControl; (repeat' split) <;> simp
@[simp] theorem captureControl_host (s : State) : (captureControl s).host = s.host := by
  unfold captureControl; (repeat' split) <;> simp
@[simp] theorem captureControl_decoder (s : State) : (captureControl s).decoder = s.decoder := by
  unfold captureControl; (repeat' split) <;> simp
@[simp] theorem captureControl_txn (s : State) : (captureControl s).txn = s.txn := by
  unfold captureControl; (repeat' split) <;> simp
@[simp] theorem captureControl_journal (s : State) : (captureControl s).journal = s.journal := by
  unfold captureControl; (repeat' split) <;> simp
@[simp] theorem captureControl_tracker (s : State) : (captureControl s).tracker = s.tracker := by
  unfold captureControl; (repeat' split) <;> simp
@[simp] theorem captureControl_engine (s : State) : (captureControl s).engine = s.engine := by
  unfold captureControl; (repeat' split) <;> simp
@[simp] theorem captureControl_port (s : State) : (captureControl s).port = s.port := by
  unfold captureControl; (repeat' split) <;> simp
@[simp] theorem captureControl_control (s : State) : (captureControl s).control = s.control := by
  unfold captureControl; (repeat' split) <;> simp
@[simp] theorem captureControl_config (s : State) : (captureControl s).config = s.config := by
  unfold captureControl; (repeat' split) <;> simp
@[simp] theorem captureControl_warning (s : State) : (captureControl s).warning = s.warning := by
  unfold captureControl; (repeat' split) <;> simp
@[simp] theorem captureControl_resetting (s : State) :
    (captureControl s).resetting = s.resetting := by
  unfold captureControl; (repeat' split) <;> simp
@[simp] theorem captureControl_free (s : State) : (captureControl s).free = s.free := by
  unfold captureControl; (repeat' split) <;> simp
@[simp] theorem captureControl_pending (s : State) : (captureControl s).pending = s.pending := by
  unfold captureControl; (repeat' split) <;> simp

@[simp] theorem grantControl_mem (s : State) :
    (grantControl s).mem = s.mem := by simp [grantControl]
@[simp] theorem grantControl_host (s : State) :
    (grantControl s).host = s.host := by simp [grantControl]
@[simp] theorem grantControl_decoder (s : State) :
    (grantControl s).decoder = s.decoder := by simp [grantControl]
@[simp] theorem grantControl_txn (s : State) :
    (grantControl s).txn = s.txn := by simp [grantControl]
@[simp] theorem grantControl_journal (s : State) :
    (grantControl s).journal = s.journal := by simp [grantControl]
@[simp] theorem grantControl_tracker (s : State) :
    (grantControl s).tracker = s.tracker := by simp [grantControl]
@[simp] theorem grantControl_engine (s : State) :
    (grantControl s).engine = s.engine := by simp [grantControl]
@[simp] theorem grantControl_control (s : State) :
    (grantControl s).control = s.control := by simp [grantControl]
@[simp] theorem grantControl_config (s : State) :
    (grantControl s).config = s.config := by simp [grantControl]
@[simp] theorem grantControl_warning (s : State) :
    (grantControl s).warning = s.warning := by simp [grantControl]
@[simp] theorem grantControl_resetting (s : State) :
    (grantControl s).resetting = s.resetting := by simp [grantControl]
@[simp] theorem grantControl_free (s : State) :
    (grantControl s).free = s.free := by simp [grantControl]
@[simp] theorem grantControl_pending (s : State) :
    (grantControl s).pending = s.pending := by simp [grantControl]

@[simp] theorem grantEngine_mem (s : State) : (grantEngine s).mem = s.mem := by simp [grantEngine]
@[simp] theorem grantEngine_host (s : State) :
    (grantEngine s).host = s.host := by simp [grantEngine]
@[simp] theorem grantEngine_decoder (s : State) :
    (grantEngine s).decoder = s.decoder := by simp [grantEngine]
@[simp] theorem grantEngine_txn (s : State) : (grantEngine s).txn = s.txn := by simp [grantEngine]
@[simp] theorem grantEngine_journal (s : State) :
    (grantEngine s).journal = s.journal := by simp [grantEngine]
@[simp] theorem grantEngine_tracker (s : State) :
    (grantEngine s).tracker = s.tracker := by simp [grantEngine]
@[simp] theorem grantEngine_engine (s : State) :
    (grantEngine s).engine = s.engine := by simp [grantEngine]
@[simp] theorem grantEngine_control (s : State) :
    (grantEngine s).control = s.control := by simp [grantEngine]
@[simp] theorem grantEngine_command (s : State) :
    (grantEngine s).command = s.command := by simp [grantEngine]
@[simp] theorem grantEngine_status (s : State) :
    (grantEngine s).status = s.status := by simp [grantEngine]
@[simp] theorem grantEngine_config (s : State) :
    (grantEngine s).config = s.config := by simp [grantEngine]
@[simp] theorem grantEngine_warning (s : State) :
    (grantEngine s).warning = s.warning := by simp [grantEngine]
@[simp] theorem grantEngine_resetting (s : State) :
    (grantEngine s).resetting = s.resetting := by simp [grantEngine]
@[simp] theorem grantEngine_free (s : State) :
    (grantEngine s).free = s.free := by simp [grantEngine]
@[simp] theorem grantEngine_pending (s : State) :
    (grantEngine s).pending = s.pending := by simp [grantEngine]

@[simp] theorem arbitrate_mem (s : State) : (arbitrate s).mem = s.mem := by
  unfold arbitrate; (repeat' split) <;> simp
@[simp] theorem arbitrate_decoder (s : State) : (arbitrate s).decoder = s.decoder := by
  unfold arbitrate; (repeat' split) <;> simp
@[simp] theorem arbitrate_txn (s : State) : (arbitrate s).txn = s.txn := by
  unfold arbitrate; (repeat' split) <;> simp
@[simp] theorem arbitrate_journal (s : State) : (arbitrate s).journal = s.journal := by
  unfold arbitrate; (repeat' split) <;> simp
@[simp] theorem arbitrate_tracker (s : State) : (arbitrate s).tracker = s.tracker := by
  unfold arbitrate; (repeat' split) <;> simp
@[simp] theorem arbitrate_engine (s : State) : (arbitrate s).engine = s.engine := by
  unfold arbitrate; (repeat' split) <;> simp
@[simp] theorem arbitrate_control (s : State) : (arbitrate s).control = s.control := by
  unfold arbitrate; (repeat' split) <;> simp
@[simp] theorem arbitrate_config (s : State) : (arbitrate s).config = s.config := by
  unfold arbitrate; (repeat' split) <;> simp
@[simp] theorem arbitrate_warning (s : State) : (arbitrate s).warning = s.warning := by
  unfold arbitrate; (repeat' split) <;> simp
@[simp] theorem arbitrate_resetting (s : State) : (arbitrate s).resetting = s.resetting := by
  unfold arbitrate; (repeat' split) <;> simp
@[simp] theorem arbitrate_free (s : State) : (arbitrate s).free = s.free := by
  unfold arbitrate; (repeat' split) <;> simp
@[simp] theorem arbitrate_pending (s : State) : (arbitrate s).pending = s.pending := by
  unfold arbitrate; (repeat' split) <;> simp

@[simp] theorem settle_mem (s : State) : (settle s).mem = s.mem := by simp [settle]
@[simp] theorem settle_decoder (s : State) : (settle s).decoder = s.decoder := by simp [settle]
@[simp] theorem settle_txn (s : State) : (settle s).txn = s.txn := by simp [settle]
@[simp] theorem settle_journal (s : State) : (settle s).journal = s.journal := by simp [settle]
@[simp] theorem settle_tracker (s : State) : (settle s).tracker = s.tracker := by simp [settle]
@[simp] theorem settle_engine (s : State) : (settle s).engine = s.engine := by simp [settle]
@[simp] theorem settle_control (s : State) : (settle s).control = s.control := by simp [settle]
@[simp] theorem settle_config (s : State) : (settle s).config = s.config := by simp [settle]
@[simp] theorem settle_warning (s : State) : (settle s).warning = s.warning := by simp [settle]
@[simp] theorem settle_resetting (s : State) :
    (settle s).resetting = s.resetting := by simp [settle]
@[simp] theorem settle_free (s : State) : (settle s).free = s.free := by simp [settle]
@[simp] theorem settle_pending (s : State) : (settle s).pending = s.pending := by simp [settle]

@[simp] theorem landCycle_host (s : State) (c : MemCycle) : (landCycle s c).host = s.host := by
  unfold landCycle; (repeat' split) <;> simp
@[simp] theorem landCycle_decoder (s : State) (c : MemCycle) :
    (landCycle s c).decoder = s.decoder := by
  unfold landCycle; (repeat' split) <;> simp
@[simp] theorem landCycle_txn (s : State) (c : MemCycle) : (landCycle s c).txn = s.txn := by
  unfold landCycle; (repeat' split) <;> simp
@[simp] theorem landCycle_journal (s : State) (c : MemCycle) :
    (landCycle s c).journal = s.journal := by
  unfold landCycle; (repeat' split) <;> simp
@[simp] theorem landCycle_tracker (s : State) (c : MemCycle) :
    (landCycle s c).tracker = s.tracker := by
  unfold landCycle; (repeat' split) <;> simp
@[simp] theorem landCycle_engine (s : State) (c : MemCycle) :
    (landCycle s c).engine = s.engine := by
  unfold landCycle; (repeat' split) <;> simp
@[simp] theorem landCycle_control (s : State) (c : MemCycle) :
    (landCycle s c).control = s.control := by
  unfold landCycle; (repeat' split) <;> simp
@[simp] theorem landCycle_command (s : State) (c : MemCycle) :
    (landCycle s c).command = s.command := by
  unfold landCycle; (repeat' split) <;> simp
@[simp] theorem landCycle_status (s : State) (c : MemCycle) :
    (landCycle s c).status = s.status := by
  unfold landCycle; (repeat' split) <;> simp
@[simp] theorem landCycle_config (s : State) (c : MemCycle) :
    (landCycle s c).config = s.config := by
  unfold landCycle; (repeat' split) <;> simp
@[simp] theorem landCycle_warning (s : State) (c : MemCycle) :
    (landCycle s c).warning = s.warning := by
  unfold landCycle; (repeat' split) <;> simp
@[simp] theorem landCycle_resetting (s : State) (c : MemCycle) :
    (landCycle s c).resetting = s.resetting := by
  unfold landCycle; (repeat' split) <;> simp
@[simp] theorem landCycle_free (s : State) (c : MemCycle) : (landCycle s c).free = s.free := by
  unfold landCycle; (repeat' split) <;> simp
@[simp] theorem landCycle_pending (s : State) (c : MemCycle) :
    (landCycle s c).pending = s.pending := by
  unfold landCycle; (repeat' split) <;> simp

@[simp] theorem appendGoesOn_mem (s : State) (a : Append) (b : Byte) :
    (appendGoesOn s a b).mem = s.mem := by
  unfold appendGoesOn; (repeat' split) <;> simp
@[simp] theorem appendGoesOn_decoder (s : State) (a : Append) (b : Byte) :
    (appendGoesOn s a b).decoder = s.decoder := by
  unfold appendGoesOn; (repeat' split) <;> simp
@[simp] theorem appendGoesOn_tracker (s : State) (a : Append) (b : Byte) :
    (appendGoesOn s a b).tracker = s.tracker := by
  unfold appendGoesOn; (repeat' split) <;> simp
@[simp] theorem appendGoesOn_engine (s : State) (a : Append) (b : Byte) :
    (appendGoesOn s a b).engine = s.engine := by
  unfold appendGoesOn; (repeat' split) <;> simp
@[simp] theorem appendGoesOn_command (s : State) (a : Append) (b : Byte) :
    (appendGoesOn s a b).command = s.command := by
  unfold appendGoesOn; (repeat' split) <;> simp
@[simp] theorem appendGoesOn_warning (s : State) (a : Append) (b : Byte) :
    (appendGoesOn s a b).warning = s.warning := by
  unfold appendGoesOn; (repeat' split) <;> simp
@[simp] theorem appendGoesOn_resetting (s : State) (a : Append) (b : Byte) :
    (appendGoesOn s a b).resetting = s.resetting := by
  unfold appendGoesOn; (repeat' split) <;> simp
@[simp] theorem appendGoesOn_pending (s : State) (a : Append) (b : Byte) :
    (appendGoesOn s a b).pending = s.pending := by
  unfold appendGoesOn; (repeat' split) <;> simp

@[simp] theorem hostCycleEnds_mem (s : State) (b : Byte) : (hostCycleEnds s b).mem = s.mem := by
  unfold hostCycleEnds; (repeat' split) <;> simp
@[simp] theorem hostCycleEnds_decoder (s : State) (b : Byte) :
    (hostCycleEnds s b).decoder = s.decoder := by
  unfold hostCycleEnds; (repeat' split) <;> simp
@[simp] theorem hostCycleEnds_engine (s : State) (b : Byte) :
    (hostCycleEnds s b).engine = s.engine := by
  unfold hostCycleEnds; (repeat' split) <;> simp
@[simp] theorem hostCycleEnds_command (s : State) (b : Byte) :
    (hostCycleEnds s b).command = s.command := by
  unfold hostCycleEnds; (repeat' split) <;> simp
@[simp] theorem hostCycleEnds_warning (s : State) (b : Byte) :
    (hostCycleEnds s b).warning = s.warning := by
  unfold hostCycleEnds; (repeat' split) <;> simp
@[simp] theorem hostCycleEnds_resetting (s : State) (b : Byte) :
    (hostCycleEnds s b).resetting = s.resetting := by
  unfold hostCycleEnds; (repeat' split) <;> simp
@[simp] theorem hostCycleEnds_pending (s : State) (b : Byte) :
    (hostCycleEnds s b).pending = s.pending := by
  unfold hostCycleEnds; (repeat' split) <;> simp

@[simp] theorem engineKeeps_mem (s : State) (b : Byte) :
    (engineKeeps s b).mem = s.mem := by simp [engineKeeps]
@[simp] theorem engineKeeps_host (s : State) (b : Byte) :
    (engineKeeps s b).host = s.host := by simp [engineKeeps]
@[simp] theorem engineKeeps_decoder (s : State) (b : Byte) :
    (engineKeeps s b).decoder = s.decoder := by simp [engineKeeps]
@[simp] theorem engineKeeps_txn (s : State) (b : Byte) :
    (engineKeeps s b).txn = s.txn := by simp [engineKeeps]
@[simp] theorem engineKeeps_journal (s : State) (b : Byte) :
    (engineKeeps s b).journal = s.journal := by simp [engineKeeps]
@[simp] theorem engineKeeps_tracker (s : State) (b : Byte) :
    (engineKeeps s b).tracker = s.tracker := by simp [engineKeeps]
@[simp] theorem engineKeeps_port (s : State) (b : Byte) :
    (engineKeeps s b).port = s.port := by simp [engineKeeps]
@[simp] theorem engineKeeps_control (s : State) (b : Byte) :
    (engineKeeps s b).control = s.control := by simp [engineKeeps]
@[simp] theorem engineKeeps_command (s : State) (b : Byte) :
    (engineKeeps s b).command = s.command := by simp [engineKeeps]
@[simp] theorem engineKeeps_status (s : State) (b : Byte) :
    (engineKeeps s b).status = s.status := by simp [engineKeeps]
@[simp] theorem engineKeeps_config (s : State) (b : Byte) :
    (engineKeeps s b).config = s.config := by simp [engineKeeps]
@[simp] theorem engineKeeps_warning (s : State) (b : Byte) :
    (engineKeeps s b).warning = s.warning := by simp [engineKeeps]
@[simp] theorem engineKeeps_resetting (s : State) (b : Byte) :
    (engineKeeps s b).resetting = s.resetting := by simp [engineKeeps]
@[simp] theorem engineKeeps_free (s : State) (b : Byte) :
    (engineKeeps s b).free = s.free := by simp [engineKeeps]
@[simp] theorem engineKeeps_pending (s : State) (b : Byte) :
    (engineKeeps s b).pending = s.pending := by simp [engineKeeps]

@[simp] theorem engineCycleEnds_mem (s : State) (b : Byte) : (engineCycleEnds s b).mem = s.mem := by
  unfold engineCycleEnds; (repeat' split) <;> simp
@[simp] theorem engineCycleEnds_decoder (s : State) (b : Byte) :
    (engineCycleEnds s b).decoder = s.decoder := by
  unfold engineCycleEnds; (repeat' split) <;> simp
@[simp] theorem engineCycleEnds_command (s : State) (b : Byte) :
    (engineCycleEnds s b).command = s.command := by
  unfold engineCycleEnds; (repeat' split) <;> simp
@[simp] theorem engineCycleEnds_warning (s : State) (b : Byte) :
    (engineCycleEnds s b).warning = s.warning := by
  unfold engineCycleEnds; (repeat' split) <;> simp
@[simp] theorem engineCycleEnds_resetting (s : State) (b : Byte) :
    (engineCycleEnds s b).resetting = s.resetting := by
  unfold engineCycleEnds; (repeat' split) <;> simp
@[simp] theorem engineCycleEnds_pending (s : State) (b : Byte) :
    (engineCycleEnds s b).pending = s.pending := by
  unfold engineCycleEnds; (repeat' split) <;> simp

@[simp] theorem configKeeps_mem (s : State) (b : Byte) :
    (configKeeps s b).mem = s.mem := by simp [configKeeps]
@[simp] theorem configKeeps_host (s : State) (b : Byte) :
    (configKeeps s b).host = s.host := by simp [configKeeps]
@[simp] theorem configKeeps_decoder (s : State) (b : Byte) :
    (configKeeps s b).decoder = s.decoder := by simp [configKeeps]
@[simp] theorem configKeeps_txn (s : State) (b : Byte) :
    (configKeeps s b).txn = s.txn := by simp [configKeeps]
@[simp] theorem configKeeps_journal (s : State) (b : Byte) :
    (configKeeps s b).journal = s.journal := by simp [configKeeps]
@[simp] theorem configKeeps_tracker (s : State) (b : Byte) :
    (configKeeps s b).tracker = s.tracker := by simp [configKeeps]
@[simp] theorem configKeeps_engine (s : State) (b : Byte) :
    (configKeeps s b).engine = s.engine := by simp [configKeeps]
@[simp] theorem configKeeps_port (s : State) (b : Byte) :
    (configKeeps s b).port = s.port := by simp [configKeeps]
@[simp] theorem configKeeps_control (s : State) (b : Byte) :
    (configKeeps s b).control = s.control := by simp [configKeeps]
@[simp] theorem configKeeps_command (s : State) (b : Byte) :
    (configKeeps s b).command = s.command := by simp [configKeeps]
@[simp] theorem configKeeps_status (s : State) (b : Byte) :
    (configKeeps s b).status = s.status := by simp [configKeeps]
@[simp] theorem configKeeps_warning (s : State) (b : Byte) :
    (configKeeps s b).warning = s.warning := by simp [configKeeps]
@[simp] theorem configKeeps_resetting (s : State) (b : Byte) :
    (configKeeps s b).resetting = s.resetting := by simp [configKeeps]
@[simp] theorem configKeeps_free (s : State) (b : Byte) :
    (configKeeps s b).free = s.free := by simp [configKeeps]
@[simp] theorem configKeeps_pending (s : State) (b : Byte) :
    (configKeeps s b).pending = s.pending := by simp [configKeeps]

@[simp] theorem configWrote_mem (s : State) : (configWrote s).mem = s.mem := by simp [configWrote]
@[simp] theorem configWrote_host (s : State) :
    (configWrote s).host = s.host := by simp [configWrote]
@[simp] theorem configWrote_decoder (s : State) :
    (configWrote s).decoder = s.decoder := by simp [configWrote]
@[simp] theorem configWrote_txn (s : State) : (configWrote s).txn = s.txn := by simp [configWrote]
@[simp] theorem configWrote_journal (s : State) :
    (configWrote s).journal = s.journal := by simp [configWrote]
@[simp] theorem configWrote_tracker (s : State) :
    (configWrote s).tracker = s.tracker := by simp [configWrote]
@[simp] theorem configWrote_engine (s : State) :
    (configWrote s).engine = s.engine := by simp [configWrote]
@[simp] theorem configWrote_port (s : State) :
    (configWrote s).port = s.port := by simp [configWrote]
@[simp] theorem configWrote_control (s : State) :
    (configWrote s).control = s.control := by simp [configWrote]
@[simp] theorem configWrote_command (s : State) :
    (configWrote s).command = s.command := by simp [configWrote]
@[simp] theorem configWrote_status (s : State) :
    (configWrote s).status = s.status := by simp [configWrote]
@[simp] theorem configWrote_warning (s : State) :
    (configWrote s).warning = s.warning := by simp [configWrote]
@[simp] theorem configWrote_resetting (s : State) :
    (configWrote s).resetting = s.resetting := by simp [configWrote]
@[simp] theorem configWrote_free (s : State) :
    (configWrote s).free = s.free := by simp [configWrote]
@[simp] theorem configWrote_pending (s : State) :
    (configWrote s).pending = s.pending := by simp [configWrote]

@[simp] theorem scanGoesOn_mem (s : State) (buf : List Byte) : (scanGoesOn s buf).mem = s.mem := by
  unfold scanGoesOn; dsimp only; (repeat' split) <;> simp
@[simp] theorem scanGoesOn_decoder (s : State) (buf : List Byte) :
    (scanGoesOn s buf).decoder = s.decoder := by
  unfold scanGoesOn; dsimp only; (repeat' split) <;> simp
@[simp] theorem scanGoesOn_command (s : State) (buf : List Byte) :
    (scanGoesOn s buf).command = s.command := by
  unfold scanGoesOn; dsimp only; (repeat' split) <;> simp
@[simp] theorem scanGoesOn_warning (s : State) (buf : List Byte) :
    (scanGoesOn s buf).warning = s.warning := by
  unfold scanGoesOn; dsimp only; (repeat' split) <;> simp
@[simp] theorem scanGoesOn_resetting (s : State) (buf : List Byte) :
    (scanGoesOn s buf).resetting = s.resetting := by
  unfold scanGoesOn; dsimp only; (repeat' split) <;> simp
@[simp] theorem scanGoesOn_pending (s : State) (buf : List Byte) :
    (scanGoesOn s buf).pending = s.pending := by
  unfold scanGoesOn; dsimp only; (repeat' split) <;> simp

@[simp] theorem sequenceKeeps_mem (s : State) (k : Sequence) (b : Byte) :
    (sequenceKeeps s k b).mem = s.mem := by
  unfold sequenceKeeps; (repeat' split) <;> simp
@[simp] theorem sequenceKeeps_host (s : State) (k : Sequence) (b : Byte) :
    (sequenceKeeps s k b).host = s.host := by
  unfold sequenceKeeps; (repeat' split) <;> simp
@[simp] theorem sequenceKeeps_decoder (s : State) (k : Sequence) (b : Byte) :
    (sequenceKeeps s k b).decoder = s.decoder := by
  unfold sequenceKeeps; (repeat' split) <;> simp
@[simp] theorem sequenceKeeps_txn (s : State) (k : Sequence) (b : Byte) :
    (sequenceKeeps s k b).txn = s.txn := by
  unfold sequenceKeeps; (repeat' split) <;> simp
@[simp] theorem sequenceKeeps_journal (s : State) (k : Sequence) (b : Byte) :
    (sequenceKeeps s k b).journal = s.journal := by
  unfold sequenceKeeps; (repeat' split) <;> simp
@[simp] theorem sequenceKeeps_tracker (s : State) (k : Sequence) (b : Byte) :
    (sequenceKeeps s k b).tracker = s.tracker := by
  unfold sequenceKeeps; (repeat' split) <;> simp
@[simp] theorem sequenceKeeps_engine (s : State) (k : Sequence) (b : Byte) :
    (sequenceKeeps s k b).engine = s.engine := by
  unfold sequenceKeeps; (repeat' split) <;> simp
@[simp] theorem sequenceKeeps_port (s : State) (k : Sequence) (b : Byte) :
    (sequenceKeeps s k b).port = s.port := by
  unfold sequenceKeeps; (repeat' split) <;> simp
@[simp] theorem sequenceKeeps_command (s : State) (k : Sequence) (b : Byte) :
    (sequenceKeeps s k b).command = s.command := by
  unfold sequenceKeeps; (repeat' split) <;> simp
@[simp] theorem sequenceKeeps_warning (s : State) (k : Sequence) (b : Byte) :
    (sequenceKeeps s k b).warning = s.warning := by
  unfold sequenceKeeps; (repeat' split) <;> simp
@[simp] theorem sequenceKeeps_resetting (s : State) (k : Sequence) (b : Byte) :
    (sequenceKeeps s k b).resetting = s.resetting := by
  unfold sequenceKeeps; (repeat' split) <;> simp
@[simp] theorem sequenceKeeps_free (s : State) (k : Sequence) (b : Byte) :
    (sequenceKeeps s k b).free = s.free := by
  unfold sequenceKeeps; (repeat' split) <;> simp
@[simp] theorem sequenceKeeps_pending (s : State) (k : Sequence) (b : Byte) :
    (sequenceKeeps s k b).pending = s.pending := by
  unfold sequenceKeeps; (repeat' split) <;> simp

@[simp] theorem sequenceEnds_mem (s : State) (l : List Byte) (x0 : Sequence) :
    (sequenceEnds s l x0).mem = s.mem := by
  unfold sequenceEnds; (repeat' split) <;> simp
@[simp] theorem sequenceEnds_warning (s : State) (l : List Byte) (x0 : Sequence) :
    (sequenceEnds s l x0).warning = s.warning := by
  unfold sequenceEnds; (repeat' split) <;> simp
@[simp] theorem sequenceEnds_resetting (s : State) (l : List Byte) (x0 : Sequence) :
    (sequenceEnds s l x0).resetting = s.resetting := by
  unfold sequenceEnds; (repeat' split) <;> simp
@[simp] theorem sequenceEnds_pending (s : State) (l : List Byte) (x0 : Sequence) :
    (sequenceEnds s l x0).pending = s.pending := by
  unfold sequenceEnds; (repeat' split) <;> simp

@[simp] theorem controlCycleEnds_mem (s : State) (b : Byte) :
    (controlCycleEnds s b).mem = s.mem := by
  unfold controlCycleEnds; (repeat' split) <;> simp
@[simp] theorem controlCycleEnds_warning (s : State) (b : Byte) :
    (controlCycleEnds s b).warning = s.warning := by
  unfold controlCycleEnds; (repeat' split) <;> simp
@[simp] theorem controlCycleEnds_resetting (s : State) (b : Byte) :
    (controlCycleEnds s b).resetting = s.resetting := by
  unfold controlCycleEnds; (repeat' split) <;> simp
@[simp] theorem controlCycleEnds_pending (s : State) (b : Byte) :
    (controlCycleEnds s b).pending = s.pending := by
  unfold controlCycleEnds; (repeat' split) <;> simp

@[simp] theorem claimantGoesOn_mem (s : State) (c : Claimant) (b : Byte) :
    (claimantGoesOn s c b).mem = s.mem := by
  unfold claimantGoesOn; (repeat' split) <;> simp
@[simp] theorem claimantGoesOn_warning (s : State) (c : Claimant) (b : Byte) :
    (claimantGoesOn s c b).warning = s.warning := by
  unfold claimantGoesOn; (repeat' split) <;> simp
@[simp] theorem claimantGoesOn_resetting (s : State) (c : Claimant) (b : Byte) :
    (claimantGoesOn s c b).resetting = s.resetting := by
  unfold claimantGoesOn; (repeat' split) <;> simp
@[simp] theorem claimantGoesOn_pending (s : State) (c : Claimant) (b : Byte) :
    (claimantGoesOn s c b).pending = s.pending := by
  unfold claimantGoesOn; (repeat' split) <;> simp

@[simp] theorem cycleEnds_warning (s : State) (c : MemCycle) :
    (cycleEnds s c).warning = s.warning := by simp [cycleEnds]
@[simp] theorem cycleEnds_resetting (s : State) (c : MemCycle) :
    (cycleEnds s c).resetting = s.resetting := by simp [cycleEnds]
@[simp] theorem cycleEnds_pending (s : State) (c : MemCycle) :
    (cycleEnds s c).pending = s.pending := by simp [cycleEnds]

end Sys2Proof.Machine
end

