-- ==== Sys2Proof/Laws/PortFields.lean ====
section
/-! SUPPORT. What the operations of the host port and the memory port leave unchanged within the blocks they change. -/

-- One declaration at a time: the package as one text then needs few threads.
set_option Elab.async false

namespace Sys2Proof.Machine

@[simp] theorem startAppend_journal_n (s : State) : (startAppend s).journal.n = s.journal.n := by
  unfold startAppend; (repeat' split) <;> simp
@[simp] theorem startAppend_journal_capacity (s : State) :
    (startAppend s).journal.capacity = s.journal.capacity := by
  unfold startAppend; (repeat' split) <;> simp
@[simp] theorem startAppend_journal_epoch (s : State) :
    (startAppend s).journal.epoch = s.journal.epoch := by
  unfold startAppend; (repeat' split) <;> simp
@[simp] theorem startAppend_journal_slot (s : State) :
    (startAppend s).journal.slot = s.journal.slot := by
  unfold startAppend; (repeat' split) <;> simp
@[simp] theorem startAppend_journal_geometry (s : State) :
    (startAppend s).journal.geometry = s.journal.geometry := by
  unfold startAppend; (repeat' split) <;> simp
@[simp] theorem startAppend_journal_link (s : State) :
    (startAppend s).journal.link = s.journal.link := by
  unfold startAppend; (repeat' split) <;> simp
@[simp] theorem startAppend_host_hfault (s : State) :
    (startAppend s).host.hfault = s.host.hfault := by
  unfold startAppend; (repeat' split) <;> simp
@[simp] theorem startAppend_host_data (s : State) : (startAppend s).host.data = s.host.data := by
  unfold startAppend; (repeat' split) <;> simp
@[simp] theorem startAppend_port_inFlight (s : State) :
    (startAppend s).port.inFlight = s.port.inFlight := by
  unfold startAppend; (repeat' split) <;> simp
@[simp] theorem startAppend_port_yieldLimit (s : State) :
    (startAppend s).port.yieldLimit = s.port.yieldLimit := by
  unfold startAppend; (repeat' split) <;> simp
@[simp] theorem startAppend_port_strap (s : State) : (startAppend s).port.strap = s.port.strap := by
  unfold startAppend; (repeat' split) <;> simp
@[simp] theorem startAppend_port_yieldControl (s : State) :
    (startAppend s).port.yieldControl = s.port.yieldControl := by
  unfold startAppend; (repeat' split) <;> simp
@[simp] theorem startAppend_port_yieldEngine (s : State) :
    (startAppend s).port.yieldEngine = s.port.yieldEngine := by
  unfold startAppend; (repeat' split) <;> simp
@[simp] theorem startAppend_port_claimControl (s : State) :
    (startAppend s).port.claimControl = s.port.claimControl := by
  unfold startAppend; (repeat' split) <;> simp
@[simp] theorem startAppend_port_claimEngine (s : State) :
    (startAppend s).port.claimEngine = s.port.claimEngine := by
  unfold startAppend; (repeat' split) <;> simp

@[simp] theorem holdCycle_host_hfault (s : State) (cause : HoldCause) :
    (holdCycle s cause).host.hfault = s.host.hfault := by
  unfold holdCycle; (repeat' split) <;> simp
@[simp] theorem holdCycle_host_data (s : State) (cause : HoldCause) :
    (holdCycle s cause).host.data = s.host.data := by
  unfold holdCycle; (repeat' split) <;> simp

@[simp] theorem applyJudgement_status_expired (s : State) (x0 : Judgement) :
    (applyJudgement s x0).status.expired = s.status.expired := by
  unfold applyJudgement; (repeat' split) <;> simp
@[simp] theorem applyJudgement_status_snapshot (s : State) (x0 : Judgement) :
    (applyJudgement s x0).status.snapshot = s.status.snapshot := by
  unfold applyJudgement; (repeat' split) <;> simp
@[simp] theorem applyJudgement_status_attention (s : State) (x0 : Judgement) :
    (applyJudgement s x0).status.attention = s.status.attention := by
  unfold applyJudgement; (repeat' split) <;> simp
@[simp] theorem applyJudgement_config_loaded (s : State) (x0 : Judgement) :
    (applyJudgement s x0).config.loaded = s.config.loaded := by
  unfold applyJudgement; (repeat' split) <;> simp
@[simp] theorem applyJudgement_config_origin (s : State) (x0 : Judgement) :
    (applyJudgement s x0).config.origin = s.config.origin := by
  unfold applyJudgement; (repeat' split) <;> simp
@[simp] theorem applyJudgement_config_adopting (s : State) (x0 : Judgement) :
    (applyJudgement s x0).config.adopting = s.config.adopting := by
  unfold applyJudgement; (repeat' split) <;> simp
@[simp] theorem applyJudgement_config_buffer (s : State) (x0 : Judgement) :
    (applyJudgement s x0).config.buffer = s.config.buffer := by
  unfold applyJudgement; (repeat' split) <;> simp
@[simp] theorem applyJudgement_journal_n (s : State) (x0 : Judgement) :
    (applyJudgement s x0).journal.n = s.journal.n := by
  unfold applyJudgement; (repeat' split) <;> simp
@[simp] theorem applyJudgement_journal_capacity (s : State) (x0 : Judgement) :
    (applyJudgement s x0).journal.capacity = s.journal.capacity := by
  unfold applyJudgement; (repeat' split) <;> simp
@[simp] theorem applyJudgement_journal_epoch (s : State) (x0 : Judgement) :
    (applyJudgement s x0).journal.epoch = s.journal.epoch := by
  unfold applyJudgement; (repeat' split) <;> simp
@[simp] theorem applyJudgement_journal_slot (s : State) (x0 : Judgement) :
    (applyJudgement s x0).journal.slot = s.journal.slot := by
  unfold applyJudgement; (repeat' split) <;> simp
@[simp] theorem applyJudgement_journal_geometry (s : State) (x0 : Judgement) :
    (applyJudgement s x0).journal.geometry = s.journal.geometry := by
  unfold applyJudgement; (repeat' split) <;> simp
@[simp] theorem applyJudgement_journal_link (s : State) (x0 : Judgement) :
    (applyJudgement s x0).journal.link = s.journal.link := by
  unfold applyJudgement; (repeat' split) <;> simp
@[simp] theorem applyJudgement_txn_op (s : State) (x0 : Judgement) :
    (applyJudgement s x0).txn.op = s.txn.op := by
  unfold applyJudgement; (repeat' split) <;> simp
@[simp] theorem applyJudgement_txn_stage (s : State) (x0 : Judgement) :
    (applyJudgement s x0).txn.stage = s.txn.stage := by
  unfold applyJudgement; (repeat' split) <;> simp
@[simp] theorem applyJudgement_txn_found (s : State) (x0 : Judgement) :
    (applyJudgement s x0).txn.found = s.txn.found := by
  unfold applyJudgement; (repeat' split) <;> simp
@[simp] theorem applyJudgement_txn_headerWritten (s : State) (x0 : Judgement) :
    (applyJudgement s x0).txn.headerWritten = s.txn.headerWritten := by
  unfold applyJudgement; (repeat' split) <;> simp
@[simp] theorem applyJudgement_txn_endState (s : State) (x0 : Judgement) :
    (applyJudgement s x0).txn.endState = s.txn.endState := by
  unfold applyJudgement; (repeat' split) <;> simp
@[simp] theorem applyJudgement_port_inFlight (s : State) (x0 : Judgement) :
    (applyJudgement s x0).port.inFlight = s.port.inFlight := by
  unfold applyJudgement; (repeat' split) <;> simp
@[simp] theorem applyJudgement_port_yieldLimit (s : State) (x0 : Judgement) :
    (applyJudgement s x0).port.yieldLimit = s.port.yieldLimit := by
  unfold applyJudgement; (repeat' split) <;> simp
@[simp] theorem applyJudgement_port_strap (s : State) (x0 : Judgement) :
    (applyJudgement s x0).port.strap = s.port.strap := by
  unfold applyJudgement; (repeat' split) <;> simp
@[simp] theorem applyJudgement_port_yieldControl (s : State) (x0 : Judgement) :
    (applyJudgement s x0).port.yieldControl = s.port.yieldControl := by
  unfold applyJudgement; (repeat' split) <;> simp
@[simp] theorem applyJudgement_port_yieldEngine (s : State) (x0 : Judgement) :
    (applyJudgement s x0).port.yieldEngine = s.port.yieldEngine := by
  unfold applyJudgement; (repeat' split) <;> simp
@[simp] theorem applyJudgement_port_claimEngine (s : State) (x0 : Judgement) :
    (applyJudgement s x0).port.claimEngine = s.port.claimEngine := by
  unfold applyJudgement; (repeat' split) <;> simp

@[simp] theorem takeCycle_status_expired (s : State) (addr : Addr) (isWrite : Bool) (data : Byte) :
    (takeCycle s addr isWrite data).status.expired = s.status.expired := by simp [takeCycle]
@[simp] theorem takeCycle_status_snapshot (s : State) (addr : Addr) (isWrite : Bool) (data : Byte) :
    (takeCycle s addr isWrite data).status.snapshot = s.status.snapshot := by simp [takeCycle]
@[simp] theorem takeCycle_status_attention (s : State) (addr : Addr) (isWrite : Bool) (data : Byte) :
    (takeCycle s addr isWrite data).status.attention = s.status.attention := by simp [takeCycle]
@[simp] theorem takeCycle_config_loaded (s : State) (addr : Addr) (isWrite : Bool) (data : Byte) :
    (takeCycle s addr isWrite data).config.loaded = s.config.loaded := by simp [takeCycle]
@[simp] theorem takeCycle_config_origin (s : State) (addr : Addr) (isWrite : Bool) (data : Byte) :
    (takeCycle s addr isWrite data).config.origin = s.config.origin := by simp [takeCycle]
@[simp] theorem takeCycle_config_adopting (s : State) (addr : Addr) (isWrite : Bool) (data : Byte) :
    (takeCycle s addr isWrite data).config.adopting = s.config.adopting := by simp [takeCycle]
@[simp] theorem takeCycle_config_buffer (s : State) (addr : Addr) (isWrite : Bool) (data : Byte) :
    (takeCycle s addr isWrite data).config.buffer = s.config.buffer := by simp [takeCycle]
@[simp] theorem takeCycle_journal_n (s : State) (addr : Addr) (isWrite : Bool) (data : Byte) :
    (takeCycle s addr isWrite data).journal.n = s.journal.n := by simp [takeCycle]
@[simp] theorem takeCycle_journal_capacity (s : State) (addr : Addr) (isWrite : Bool) (data : Byte) :
    (takeCycle s addr isWrite data).journal.capacity = s.journal.capacity := by simp [takeCycle]
@[simp] theorem takeCycle_journal_epoch (s : State) (addr : Addr) (isWrite : Bool) (data : Byte) :
    (takeCycle s addr isWrite data).journal.epoch = s.journal.epoch := by simp [takeCycle]
@[simp] theorem takeCycle_journal_slot (s : State) (addr : Addr) (isWrite : Bool) (data : Byte) :
    (takeCycle s addr isWrite data).journal.slot = s.journal.slot := by simp [takeCycle]
@[simp] theorem takeCycle_journal_geometry (s : State) (addr : Addr) (isWrite : Bool) (data : Byte) :
    (takeCycle s addr isWrite data).journal.geometry = s.journal.geometry := by simp [takeCycle]
@[simp] theorem takeCycle_journal_link (s : State) (addr : Addr) (isWrite : Bool) (data : Byte) :
    (takeCycle s addr isWrite data).journal.link = s.journal.link := by simp [takeCycle]
@[simp] theorem takeCycle_txn_op (s : State) (addr : Addr) (isWrite : Bool) (data : Byte) :
    (takeCycle s addr isWrite data).txn.op = s.txn.op := by simp [takeCycle]
@[simp] theorem takeCycle_txn_stage (s : State) (addr : Addr) (isWrite : Bool) (data : Byte) :
    (takeCycle s addr isWrite data).txn.stage = s.txn.stage := by simp [takeCycle]
@[simp] theorem takeCycle_txn_found (s : State) (addr : Addr) (isWrite : Bool) (data : Byte) :
    (takeCycle s addr isWrite data).txn.found = s.txn.found := by simp [takeCycle]
@[simp] theorem takeCycle_txn_headerWritten (s : State) (addr : Addr) (isWrite : Bool) (data : Byte) :
    (takeCycle s addr isWrite data).txn.headerWritten = s.txn.headerWritten := by simp [takeCycle]
@[simp] theorem takeCycle_txn_endState (s : State) (addr : Addr) (isWrite : Bool) (data : Byte) :
    (takeCycle s addr isWrite data).txn.endState = s.txn.endState := by simp [takeCycle]
@[simp] theorem takeCycle_port_inFlight (s : State) (addr : Addr) (isWrite : Bool) (data : Byte) :
    (takeCycle s addr isWrite data).port.inFlight = s.port.inFlight := by simp [takeCycle]
@[simp] theorem takeCycle_port_yieldLimit (s : State) (addr : Addr) (isWrite : Bool) (data : Byte) :
    (takeCycle s addr isWrite data).port.yieldLimit = s.port.yieldLimit := by simp [takeCycle]
@[simp] theorem takeCycle_port_strap (s : State) (addr : Addr) (isWrite : Bool) (data : Byte) :
    (takeCycle s addr isWrite data).port.strap = s.port.strap := by simp [takeCycle]
@[simp] theorem takeCycle_port_yieldControl (s : State) (addr : Addr) (isWrite : Bool) (data : Byte) :
    (takeCycle s addr isWrite data).port.yieldControl = s.port.yieldControl := by simp [takeCycle]
@[simp] theorem takeCycle_port_yieldEngine (s : State) (addr : Addr) (isWrite : Bool) (data : Byte) :
    (takeCycle s addr isWrite data).port.yieldEngine = s.port.yieldEngine := by simp [takeCycle]
@[simp] theorem takeCycle_port_claimEngine (s : State) (addr : Addr) (isWrite : Bool) (data : Byte) :
    (takeCycle s addr isWrite data).port.claimEngine = s.port.claimEngine := by simp [takeCycle]

@[simp] theorem rejudge_status_expired (s : State) (c : HostCycle) :
    (rejudge s c).status.expired = s.status.expired := by simp [rejudge]
@[simp] theorem rejudge_status_snapshot (s : State) (c : HostCycle) :
    (rejudge s c).status.snapshot = s.status.snapshot := by simp [rejudge]
@[simp] theorem rejudge_status_attention (s : State) (c : HostCycle) :
    (rejudge s c).status.attention = s.status.attention := by simp [rejudge]
@[simp] theorem rejudge_config_loaded (s : State) (c : HostCycle) :
    (rejudge s c).config.loaded = s.config.loaded := by simp [rejudge]
@[simp] theorem rejudge_config_origin (s : State) (c : HostCycle) :
    (rejudge s c).config.origin = s.config.origin := by simp [rejudge]
@[simp] theorem rejudge_config_adopting (s : State) (c : HostCycle) :
    (rejudge s c).config.adopting = s.config.adopting := by simp [rejudge]
@[simp] theorem rejudge_config_buffer (s : State) (c : HostCycle) :
    (rejudge s c).config.buffer = s.config.buffer := by simp [rejudge]
@[simp] theorem rejudge_journal_n (s : State) (c : HostCycle) :
    (rejudge s c).journal.n = s.journal.n := by simp [rejudge]
@[simp] theorem rejudge_journal_capacity (s : State) (c : HostCycle) :
    (rejudge s c).journal.capacity = s.journal.capacity := by simp [rejudge]
@[simp] theorem rejudge_journal_epoch (s : State) (c : HostCycle) :
    (rejudge s c).journal.epoch = s.journal.epoch := by simp [rejudge]
@[simp] theorem rejudge_journal_slot (s : State) (c : HostCycle) :
    (rejudge s c).journal.slot = s.journal.slot := by simp [rejudge]
@[simp] theorem rejudge_journal_geometry (s : State) (c : HostCycle) :
    (rejudge s c).journal.geometry = s.journal.geometry := by simp [rejudge]
@[simp] theorem rejudge_journal_link (s : State) (c : HostCycle) :
    (rejudge s c).journal.link = s.journal.link := by simp [rejudge]
@[simp] theorem rejudge_txn_op (s : State) (c : HostCycle) :
    (rejudge s c).txn.op = s.txn.op := by simp [rejudge]
@[simp] theorem rejudge_txn_stage (s : State) (c : HostCycle) :
    (rejudge s c).txn.stage = s.txn.stage := by simp [rejudge]
@[simp] theorem rejudge_txn_found (s : State) (c : HostCycle) :
    (rejudge s c).txn.found = s.txn.found := by simp [rejudge]
@[simp] theorem rejudge_txn_headerWritten (s : State) (c : HostCycle) :
    (rejudge s c).txn.headerWritten = s.txn.headerWritten := by simp [rejudge]
@[simp] theorem rejudge_txn_endState (s : State) (c : HostCycle) :
    (rejudge s c).txn.endState = s.txn.endState := by simp [rejudge]
@[simp] theorem rejudge_port_inFlight (s : State) (c : HostCycle) :
    (rejudge s c).port.inFlight = s.port.inFlight := by simp [rejudge]
@[simp] theorem rejudge_port_yieldLimit (s : State) (c : HostCycle) :
    (rejudge s c).port.yieldLimit = s.port.yieldLimit := by simp [rejudge]
@[simp] theorem rejudge_port_strap (s : State) (c : HostCycle) :
    (rejudge s c).port.strap = s.port.strap := by simp [rejudge]
@[simp] theorem rejudge_port_yieldControl (s : State) (c : HostCycle) :
    (rejudge s c).port.yieldControl = s.port.yieldControl := by simp [rejudge]
@[simp] theorem rejudge_port_yieldEngine (s : State) (c : HostCycle) :
    (rejudge s c).port.yieldEngine = s.port.yieldEngine := by simp [rejudge]
@[simp] theorem rejudge_port_claimEngine (s : State) (c : HostCycle) :
    (rejudge s c).port.claimEngine = s.port.claimEngine := by simp [rejudge]

@[simp] theorem releaseHeld_status_expired (s : State) :
    (releaseHeld s).status.expired = s.status.expired := by
  unfold releaseHeld; (repeat' split) <;> simp
@[simp] theorem releaseHeld_status_snapshot (s : State) :
    (releaseHeld s).status.snapshot = s.status.snapshot := by
  unfold releaseHeld; (repeat' split) <;> simp
@[simp] theorem releaseHeld_status_attention (s : State) :
    (releaseHeld s).status.attention = s.status.attention := by
  unfold releaseHeld; (repeat' split) <;> simp
@[simp] theorem releaseHeld_config_loaded (s : State) :
    (releaseHeld s).config.loaded = s.config.loaded := by
  unfold releaseHeld; (repeat' split) <;> simp
@[simp] theorem releaseHeld_config_origin (s : State) :
    (releaseHeld s).config.origin = s.config.origin := by
  unfold releaseHeld; (repeat' split) <;> simp
@[simp] theorem releaseHeld_config_adopting (s : State) :
    (releaseHeld s).config.adopting = s.config.adopting := by
  unfold releaseHeld; (repeat' split) <;> simp
@[simp] theorem releaseHeld_config_buffer (s : State) :
    (releaseHeld s).config.buffer = s.config.buffer := by
  unfold releaseHeld; (repeat' split) <;> simp
@[simp] theorem releaseHeld_journal_n (s : State) : (releaseHeld s).journal.n = s.journal.n := by
  unfold releaseHeld; (repeat' split) <;> simp
@[simp] theorem releaseHeld_journal_capacity (s : State) :
    (releaseHeld s).journal.capacity = s.journal.capacity := by
  unfold releaseHeld; (repeat' split) <;> simp
@[simp] theorem releaseHeld_journal_epoch (s : State) :
    (releaseHeld s).journal.epoch = s.journal.epoch := by
  unfold releaseHeld; (repeat' split) <;> simp
@[simp] theorem releaseHeld_journal_slot (s : State) :
    (releaseHeld s).journal.slot = s.journal.slot := by
  unfold releaseHeld; (repeat' split) <;> simp
@[simp] theorem releaseHeld_journal_geometry (s : State) :
    (releaseHeld s).journal.geometry = s.journal.geometry := by
  unfold releaseHeld; (repeat' split) <;> simp
@[simp] theorem releaseHeld_journal_link (s : State) :
    (releaseHeld s).journal.link = s.journal.link := by
  unfold releaseHeld; (repeat' split) <;> simp
@[simp] theorem releaseHeld_txn_op (s : State) : (releaseHeld s).txn.op = s.txn.op := by
  unfold releaseHeld; (repeat' split) <;> simp
@[simp] theorem releaseHeld_txn_stage (s : State) : (releaseHeld s).txn.stage = s.txn.stage := by
  unfold releaseHeld; (repeat' split) <;> simp
@[simp] theorem releaseHeld_txn_found (s : State) : (releaseHeld s).txn.found = s.txn.found := by
  unfold releaseHeld; (repeat' split) <;> simp
@[simp] theorem releaseHeld_txn_headerWritten (s : State) :
    (releaseHeld s).txn.headerWritten = s.txn.headerWritten := by
  unfold releaseHeld; (repeat' split) <;> simp
@[simp] theorem releaseHeld_txn_endState (s : State) :
    (releaseHeld s).txn.endState = s.txn.endState := by
  unfold releaseHeld; (repeat' split) <;> simp
@[simp] theorem releaseHeld_port_inFlight (s : State) :
    (releaseHeld s).port.inFlight = s.port.inFlight := by
  unfold releaseHeld; (repeat' split) <;> simp
@[simp] theorem releaseHeld_port_yieldLimit (s : State) :
    (releaseHeld s).port.yieldLimit = s.port.yieldLimit := by
  unfold releaseHeld; (repeat' split) <;> simp
@[simp] theorem releaseHeld_port_strap (s : State) : (releaseHeld s).port.strap = s.port.strap := by
  unfold releaseHeld; (repeat' split) <;> simp
@[simp] theorem releaseHeld_port_yieldControl (s : State) :
    (releaseHeld s).port.yieldControl = s.port.yieldControl := by
  unfold releaseHeld; (repeat' split) <;> simp
@[simp] theorem releaseHeld_port_yieldEngine (s : State) :
    (releaseHeld s).port.yieldEngine = s.port.yieldEngine := by
  unfold releaseHeld; (repeat' split) <;> simp
@[simp] theorem releaseHeld_port_claimEngine (s : State) :
    (releaseHeld s).port.claimEngine = s.port.claimEngine := by
  unfold releaseHeld; (repeat' split) <;> simp

@[simp] theorem releaseGranule_host_hfault (s : State) :
    (releaseGranule s).host.hfault = s.host.hfault := by
  unfold releaseGranule; (repeat' split) <;> simp
@[simp] theorem releaseGranule_host_data (s : State) :
    (releaseGranule s).host.data = s.host.data := by
  unfold releaseGranule; (repeat' split) <;> simp
@[simp] theorem releaseGranule_port_inFlight (s : State) :
    (releaseGranule s).port.inFlight = s.port.inFlight := by
  unfold releaseGranule; (repeat' split) <;> simp
@[simp] theorem releaseGranule_port_yieldLimit (s : State) :
    (releaseGranule s).port.yieldLimit = s.port.yieldLimit := by
  unfold releaseGranule; (repeat' split) <;> simp
@[simp] theorem releaseGranule_port_strap (s : State) :
    (releaseGranule s).port.strap = s.port.strap := by
  unfold releaseGranule; (repeat' split) <;> simp
@[simp] theorem releaseGranule_port_yieldControl (s : State) :
    (releaseGranule s).port.yieldControl = s.port.yieldControl := by
  unfold releaseGranule; (repeat' split) <;> simp
@[simp] theorem releaseGranule_port_yieldEngine (s : State) :
    (releaseGranule s).port.yieldEngine = s.port.yieldEngine := by
  unfold releaseGranule; (repeat' split) <;> simp
@[simp] theorem releaseGranule_port_claimControl (s : State) :
    (releaseGranule s).port.claimControl = s.port.claimControl := by
  unfold releaseGranule; (repeat' split) <;> simp
@[simp] theorem releaseGranule_port_claimEngine (s : State) :
    (releaseGranule s).port.claimEngine = s.port.claimEngine := by
  unfold releaseGranule; (repeat' split) <;> simp

@[simp] theorem abandonAppend_status_snapshot (s : State) (cause : AbandonCause) :
    (abandonAppend s cause).status.snapshot = s.status.snapshot := by
  unfold abandonAppend; (repeat' split) <;> simp
@[simp] theorem abandonAppend_status_attention (s : State) (cause : AbandonCause) :
    (abandonAppend s cause).status.attention = s.status.attention := by
  unfold abandonAppend; (repeat' split) <;> simp
@[simp] theorem abandonAppend_config_loaded (s : State) (cause : AbandonCause) :
    (abandonAppend s cause).config.loaded = s.config.loaded := by
  unfold abandonAppend; (repeat' split) <;> simp
@[simp] theorem abandonAppend_config_origin (s : State) (cause : AbandonCause) :
    (abandonAppend s cause).config.origin = s.config.origin := by
  unfold abandonAppend; (repeat' split) <;> simp
@[simp] theorem abandonAppend_config_adopting (s : State) (cause : AbandonCause) :
    (abandonAppend s cause).config.adopting = s.config.adopting := by
  unfold abandonAppend; (repeat' split) <;> simp
@[simp] theorem abandonAppend_config_buffer (s : State) (cause : AbandonCause) :
    (abandonAppend s cause).config.buffer = s.config.buffer := by
  unfold abandonAppend; (repeat' split) <;> simp
@[simp] theorem abandonAppend_journal_n (s : State) (cause : AbandonCause) :
    (abandonAppend s cause).journal.n = s.journal.n := by
  unfold abandonAppend; (repeat' split) <;> simp
@[simp] theorem abandonAppend_journal_capacity (s : State) (cause : AbandonCause) :
    (abandonAppend s cause).journal.capacity = s.journal.capacity := by
  unfold abandonAppend; (repeat' split) <;> simp
@[simp] theorem abandonAppend_journal_epoch (s : State) (cause : AbandonCause) :
    (abandonAppend s cause).journal.epoch = s.journal.epoch := by
  unfold abandonAppend; (repeat' split) <;> simp
@[simp] theorem abandonAppend_journal_slot (s : State) (cause : AbandonCause) :
    (abandonAppend s cause).journal.slot = s.journal.slot := by
  unfold abandonAppend; (repeat' split) <;> simp
@[simp] theorem abandonAppend_journal_geometry (s : State) (cause : AbandonCause) :
    (abandonAppend s cause).journal.geometry = s.journal.geometry := by
  unfold abandonAppend; (repeat' split) <;> simp
@[simp] theorem abandonAppend_journal_link (s : State) (cause : AbandonCause) :
    (abandonAppend s cause).journal.link = s.journal.link := by
  unfold abandonAppend; (repeat' split) <;> simp
@[simp] theorem abandonAppend_txn_op (s : State) (cause : AbandonCause) :
    (abandonAppend s cause).txn.op = s.txn.op := by
  unfold abandonAppend; (repeat' split) <;> simp
@[simp] theorem abandonAppend_txn_stage (s : State) (cause : AbandonCause) :
    (abandonAppend s cause).txn.stage = s.txn.stage := by
  unfold abandonAppend; (repeat' split) <;> simp
@[simp] theorem abandonAppend_txn_found (s : State) (cause : AbandonCause) :
    (abandonAppend s cause).txn.found = s.txn.found := by
  unfold abandonAppend; (repeat' split) <;> simp
@[simp] theorem abandonAppend_txn_headerWritten (s : State) (cause : AbandonCause) :
    (abandonAppend s cause).txn.headerWritten = s.txn.headerWritten := by
  unfold abandonAppend; (repeat' split) <;> simp
@[simp] theorem abandonAppend_txn_endState (s : State) (cause : AbandonCause) :
    (abandonAppend s cause).txn.endState = s.txn.endState := by
  unfold abandonAppend; (repeat' split) <;> simp
@[simp] theorem abandonAppend_port_inFlight (s : State) (cause : AbandonCause) :
    (abandonAppend s cause).port.inFlight = s.port.inFlight := by
  unfold abandonAppend; (repeat' split) <;> simp
@[simp] theorem abandonAppend_port_yieldLimit (s : State) (cause : AbandonCause) :
    (abandonAppend s cause).port.yieldLimit = s.port.yieldLimit := by
  unfold abandonAppend; (repeat' split) <;> simp
@[simp] theorem abandonAppend_port_strap (s : State) (cause : AbandonCause) :
    (abandonAppend s cause).port.strap = s.port.strap := by
  unfold abandonAppend; (repeat' split) <;> simp
@[simp] theorem abandonAppend_port_yieldControl (s : State) (cause : AbandonCause) :
    (abandonAppend s cause).port.yieldControl = s.port.yieldControl := by
  unfold abandonAppend; (repeat' split) <;> simp
@[simp] theorem abandonAppend_port_yieldEngine (s : State) (cause : AbandonCause) :
    (abandonAppend s cause).port.yieldEngine = s.port.yieldEngine := by
  unfold abandonAppend; (repeat' split) <;> simp
@[simp] theorem abandonAppend_port_claimEngine (s : State) (cause : AbandonCause) :
    (abandonAppend s cause).port.claimEngine = s.port.claimEngine := by
  unfold abandonAppend; (repeat' split) <;> simp

@[simp] theorem markAbandon_journal_n (s : State) (a : Append) (cause : AbandonCause) :
    (markAbandon s a cause).journal.n = s.journal.n := by simp [markAbandon]
@[simp] theorem markAbandon_journal_capacity (s : State) (a : Append) (cause : AbandonCause) :
    (markAbandon s a cause).journal.capacity = s.journal.capacity := by simp [markAbandon]
@[simp] theorem markAbandon_journal_epoch (s : State) (a : Append) (cause : AbandonCause) :
    (markAbandon s a cause).journal.epoch = s.journal.epoch := by simp [markAbandon]
@[simp] theorem markAbandon_journal_slot (s : State) (a : Append) (cause : AbandonCause) :
    (markAbandon s a cause).journal.slot = s.journal.slot := by simp [markAbandon]
@[simp] theorem markAbandon_journal_geometry (s : State) (a : Append) (cause : AbandonCause) :
    (markAbandon s a cause).journal.geometry = s.journal.geometry := by simp [markAbandon]
@[simp] theorem markAbandon_journal_link (s : State) (a : Append) (cause : AbandonCause) :
    (markAbandon s a cause).journal.link = s.journal.link := by simp [markAbandon]

@[simp] theorem abandonOn_status_snapshot (s : State) (a : Append) (cause : AbandonCause) :
    (abandonOn s a cause).status.snapshot = s.status.snapshot := by
  unfold abandonOn; (repeat' split) <;> simp
@[simp] theorem abandonOn_status_attention (s : State) (a : Append) (cause : AbandonCause) :
    (abandonOn s a cause).status.attention = s.status.attention := by
  unfold abandonOn; (repeat' split) <;> simp
@[simp] theorem abandonOn_config_loaded (s : State) (a : Append) (cause : AbandonCause) :
    (abandonOn s a cause).config.loaded = s.config.loaded := by
  unfold abandonOn; (repeat' split) <;> simp
@[simp] theorem abandonOn_config_origin (s : State) (a : Append) (cause : AbandonCause) :
    (abandonOn s a cause).config.origin = s.config.origin := by
  unfold abandonOn; (repeat' split) <;> simp
@[simp] theorem abandonOn_config_adopting (s : State) (a : Append) (cause : AbandonCause) :
    (abandonOn s a cause).config.adopting = s.config.adopting := by
  unfold abandonOn; (repeat' split) <;> simp
@[simp] theorem abandonOn_config_buffer (s : State) (a : Append) (cause : AbandonCause) :
    (abandonOn s a cause).config.buffer = s.config.buffer := by
  unfold abandonOn; (repeat' split) <;> simp
@[simp] theorem abandonOn_journal_n (s : State) (a : Append) (cause : AbandonCause) :
    (abandonOn s a cause).journal.n = s.journal.n := by
  unfold abandonOn; (repeat' split) <;> simp
@[simp] theorem abandonOn_journal_capacity (s : State) (a : Append) (cause : AbandonCause) :
    (abandonOn s a cause).journal.capacity = s.journal.capacity := by
  unfold abandonOn; (repeat' split) <;> simp
@[simp] theorem abandonOn_journal_epoch (s : State) (a : Append) (cause : AbandonCause) :
    (abandonOn s a cause).journal.epoch = s.journal.epoch := by
  unfold abandonOn; (repeat' split) <;> simp
@[simp] theorem abandonOn_journal_slot (s : State) (a : Append) (cause : AbandonCause) :
    (abandonOn s a cause).journal.slot = s.journal.slot := by
  unfold abandonOn; (repeat' split) <;> simp
@[simp] theorem abandonOn_journal_geometry (s : State) (a : Append) (cause : AbandonCause) :
    (abandonOn s a cause).journal.geometry = s.journal.geometry := by
  unfold abandonOn; (repeat' split) <;> simp
@[simp] theorem abandonOn_journal_link (s : State) (a : Append) (cause : AbandonCause) :
    (abandonOn s a cause).journal.link = s.journal.link := by
  unfold abandonOn; (repeat' split) <;> simp
@[simp] theorem abandonOn_txn_op (s : State) (a : Append) (cause : AbandonCause) :
    (abandonOn s a cause).txn.op = s.txn.op := by
  unfold abandonOn; (repeat' split) <;> simp
@[simp] theorem abandonOn_txn_stage (s : State) (a : Append) (cause : AbandonCause) :
    (abandonOn s a cause).txn.stage = s.txn.stage := by
  unfold abandonOn; (repeat' split) <;> simp
@[simp] theorem abandonOn_txn_found (s : State) (a : Append) (cause : AbandonCause) :
    (abandonOn s a cause).txn.found = s.txn.found := by
  unfold abandonOn; (repeat' split) <;> simp
@[simp] theorem abandonOn_txn_headerWritten (s : State) (a : Append) (cause : AbandonCause) :
    (abandonOn s a cause).txn.headerWritten = s.txn.headerWritten := by
  unfold abandonOn; (repeat' split) <;> simp
@[simp] theorem abandonOn_txn_endState (s : State) (a : Append) (cause : AbandonCause) :
    (abandonOn s a cause).txn.endState = s.txn.endState := by
  unfold abandonOn; (repeat' split) <;> simp
@[simp] theorem abandonOn_port_inFlight (s : State) (a : Append) (cause : AbandonCause) :
    (abandonOn s a cause).port.inFlight = s.port.inFlight := by
  unfold abandonOn; (repeat' split) <;> simp
@[simp] theorem abandonOn_port_yieldLimit (s : State) (a : Append) (cause : AbandonCause) :
    (abandonOn s a cause).port.yieldLimit = s.port.yieldLimit := by
  unfold abandonOn; (repeat' split) <;> simp
@[simp] theorem abandonOn_port_strap (s : State) (a : Append) (cause : AbandonCause) :
    (abandonOn s a cause).port.strap = s.port.strap := by
  unfold abandonOn; (repeat' split) <;> simp
@[simp] theorem abandonOn_port_yieldControl (s : State) (a : Append) (cause : AbandonCause) :
    (abandonOn s a cause).port.yieldControl = s.port.yieldControl := by
  unfold abandonOn; (repeat' split) <;> simp
@[simp] theorem abandonOn_port_yieldEngine (s : State) (a : Append) (cause : AbandonCause) :
    (abandonOn s a cause).port.yieldEngine = s.port.yieldEngine := by
  unfold abandonOn; (repeat' split) <;> simp
@[simp] theorem abandonOn_port_claimEngine (s : State) (a : Append) (cause : AbandonCause) :
    (abandonOn s a cause).port.claimEngine = s.port.claimEngine := by
  unfold abandonOn; (repeat' split) <;> simp

@[simp] theorem timerAtLimit_host_hfault (s : State) (t : HoldTimer) :
    (timerAtLimit s t).host.hfault = s.host.hfault := by simp [timerAtLimit]
@[simp] theorem timerAtLimit_host_data (s : State) (t : HoldTimer) :
    (timerAtLimit s t).host.data = s.host.data := by simp [timerAtLimit]

@[simp] theorem expireHold_status_snapshot (s : State) :
    (expireHold s).status.snapshot = s.status.snapshot := by
  unfold expireHold; (repeat' split) <;> simp
@[simp] theorem expireHold_status_attention (s : State) :
    (expireHold s).status.attention = s.status.attention := by
  unfold expireHold; (repeat' split) <;> simp
@[simp] theorem expireHold_config_loaded (s : State) :
    (expireHold s).config.loaded = s.config.loaded := by
  unfold expireHold; (repeat' split) <;> simp
@[simp] theorem expireHold_config_origin (s : State) :
    (expireHold s).config.origin = s.config.origin := by
  unfold expireHold; (repeat' split) <;> simp
@[simp] theorem expireHold_config_adopting (s : State) :
    (expireHold s).config.adopting = s.config.adopting := by
  unfold expireHold; (repeat' split) <;> simp
@[simp] theorem expireHold_config_buffer (s : State) :
    (expireHold s).config.buffer = s.config.buffer := by
  unfold expireHold; (repeat' split) <;> simp
@[simp] theorem expireHold_journal_n (s : State) : (expireHold s).journal.n = s.journal.n := by
  unfold expireHold; (repeat' split) <;> simp
@[simp] theorem expireHold_journal_capacity (s : State) :
    (expireHold s).journal.capacity = s.journal.capacity := by
  unfold expireHold; (repeat' split) <;> simp
@[simp] theorem expireHold_journal_epoch (s : State) :
    (expireHold s).journal.epoch = s.journal.epoch := by
  unfold expireHold; (repeat' split) <;> simp
@[simp] theorem expireHold_journal_slot (s : State) :
    (expireHold s).journal.slot = s.journal.slot := by
  unfold expireHold; (repeat' split) <;> simp
@[simp] theorem expireHold_journal_geometry (s : State) :
    (expireHold s).journal.geometry = s.journal.geometry := by
  unfold expireHold; (repeat' split) <;> simp
@[simp] theorem expireHold_journal_link (s : State) :
    (expireHold s).journal.link = s.journal.link := by
  unfold expireHold; (repeat' split) <;> simp
@[simp] theorem expireHold_txn_op (s : State) : (expireHold s).txn.op = s.txn.op := by
  unfold expireHold; (repeat' split) <;> simp
@[simp] theorem expireHold_txn_stage (s : State) : (expireHold s).txn.stage = s.txn.stage := by
  unfold expireHold; (repeat' split) <;> simp
@[simp] theorem expireHold_txn_found (s : State) : (expireHold s).txn.found = s.txn.found := by
  unfold expireHold; (repeat' split) <;> simp
@[simp] theorem expireHold_txn_headerWritten (s : State) :
    (expireHold s).txn.headerWritten = s.txn.headerWritten := by
  unfold expireHold; (repeat' split) <;> simp
@[simp] theorem expireHold_txn_endState (s : State) :
    (expireHold s).txn.endState = s.txn.endState := by
  unfold expireHold; (repeat' split) <;> simp
@[simp] theorem expireHold_port_inFlight (s : State) :
    (expireHold s).port.inFlight = s.port.inFlight := by
  unfold expireHold; (repeat' split) <;> simp
@[simp] theorem expireHold_port_yieldLimit (s : State) :
    (expireHold s).port.yieldLimit = s.port.yieldLimit := by
  unfold expireHold; (repeat' split) <;> simp
@[simp] theorem expireHold_port_strap (s : State) : (expireHold s).port.strap = s.port.strap := by
  unfold expireHold; (repeat' split) <;> simp
@[simp] theorem expireHold_port_yieldControl (s : State) :
    (expireHold s).port.yieldControl = s.port.yieldControl := by
  unfold expireHold; (repeat' split) <;> simp
@[simp] theorem expireHold_port_yieldEngine (s : State) :
    (expireHold s).port.yieldEngine = s.port.yieldEngine := by
  unfold expireHold; (repeat' split) <;> simp
@[simp] theorem expireHold_port_claimEngine (s : State) :
    (expireHold s).port.claimEngine = s.port.claimEngine := by
  unfold expireHold; (repeat' split) <;> simp

@[simp] theorem startTimer_host_hfault (s : State) :
    (startTimer s).host.hfault = s.host.hfault := by
  unfold startTimer; (repeat' split) <;> simp
@[simp] theorem startTimer_host_data (s : State) : (startTimer s).host.data = s.host.data := by
  unfold startTimer; (repeat' split) <;> simp

@[simp] theorem faultForPower_status_expired (s : State) :
    (faultForPower s).status.expired = s.status.expired := by
  unfold faultForPower; (repeat' split) <;> simp
@[simp] theorem faultForPower_status_snapshot (s : State) :
    (faultForPower s).status.snapshot = s.status.snapshot := by
  unfold faultForPower; (repeat' split) <;> simp
@[simp] theorem faultForPower_status_attention (s : State) :
    (faultForPower s).status.attention = s.status.attention := by
  unfold faultForPower; (repeat' split) <;> simp
@[simp] theorem faultForPower_config_loaded (s : State) :
    (faultForPower s).config.loaded = s.config.loaded := by
  unfold faultForPower; (repeat' split) <;> simp
@[simp] theorem faultForPower_config_origin (s : State) :
    (faultForPower s).config.origin = s.config.origin := by
  unfold faultForPower; (repeat' split) <;> simp
@[simp] theorem faultForPower_config_adopting (s : State) :
    (faultForPower s).config.adopting = s.config.adopting := by
  unfold faultForPower; (repeat' split) <;> simp
@[simp] theorem faultForPower_config_buffer (s : State) :
    (faultForPower s).config.buffer = s.config.buffer := by
  unfold faultForPower; (repeat' split) <;> simp
@[simp] theorem faultForPower_txn_op (s : State) : (faultForPower s).txn.op = s.txn.op := by
  unfold faultForPower; (repeat' split) <;> simp
@[simp] theorem faultForPower_txn_stage (s : State) :
    (faultForPower s).txn.stage = s.txn.stage := by
  unfold faultForPower; (repeat' split) <;> simp
@[simp] theorem faultForPower_txn_found (s : State) :
    (faultForPower s).txn.found = s.txn.found := by
  unfold faultForPower; (repeat' split) <;> simp
@[simp] theorem faultForPower_txn_headerWritten (s : State) :
    (faultForPower s).txn.headerWritten = s.txn.headerWritten := by
  unfold faultForPower; (repeat' split) <;> simp
@[simp] theorem faultForPower_txn_endState (s : State) :
    (faultForPower s).txn.endState = s.txn.endState := by
  unfold faultForPower; (repeat' split) <;> simp
@[simp] theorem faultForPower_port_inFlight (s : State) :
    (faultForPower s).port.inFlight = s.port.inFlight := by
  unfold faultForPower; (repeat' split) <;> simp
@[simp] theorem faultForPower_port_yieldLimit (s : State) :
    (faultForPower s).port.yieldLimit = s.port.yieldLimit := by
  unfold faultForPower; (repeat' split) <;> simp
@[simp] theorem faultForPower_port_strap (s : State) :
    (faultForPower s).port.strap = s.port.strap := by
  unfold faultForPower; (repeat' split) <;> simp
@[simp] theorem faultForPower_port_yieldControl (s : State) :
    (faultForPower s).port.yieldControl = s.port.yieldControl := by
  unfold faultForPower; (repeat' split) <;> simp
@[simp] theorem faultForPower_port_yieldEngine (s : State) :
    (faultForPower s).port.yieldEngine = s.port.yieldEngine := by
  unfold faultForPower; (repeat' split) <;> simp
@[simp] theorem faultForPower_port_claimHost (s : State) :
    (faultForPower s).port.claimHost = s.port.claimHost := by
  unfold faultForPower; (repeat' split) <;> simp
@[simp] theorem faultForPower_port_claimEngine (s : State) :
    (faultForPower s).port.claimEngine = s.port.claimEngine := by
  unfold faultForPower; (repeat' split) <;> simp

@[simp] theorem writeUnderWarning_status_snapshot (s : State) (c : HostCycle) :
    (writeUnderWarning s c).status.snapshot = s.status.snapshot := by
  unfold writeUnderWarning; (repeat' split) <;> simp
@[simp] theorem writeUnderWarning_status_attention (s : State) (c : HostCycle) :
    (writeUnderWarning s c).status.attention = s.status.attention := by
  unfold writeUnderWarning; (repeat' split) <;> simp
@[simp] theorem writeUnderWarning_config_loaded (s : State) (c : HostCycle) :
    (writeUnderWarning s c).config.loaded = s.config.loaded := by
  unfold writeUnderWarning; (repeat' split) <;> simp
@[simp] theorem writeUnderWarning_config_origin (s : State) (c : HostCycle) :
    (writeUnderWarning s c).config.origin = s.config.origin := by
  unfold writeUnderWarning; (repeat' split) <;> simp
@[simp] theorem writeUnderWarning_config_adopting (s : State) (c : HostCycle) :
    (writeUnderWarning s c).config.adopting = s.config.adopting := by
  unfold writeUnderWarning; (repeat' split) <;> simp
@[simp] theorem writeUnderWarning_config_buffer (s : State) (c : HostCycle) :
    (writeUnderWarning s c).config.buffer = s.config.buffer := by
  unfold writeUnderWarning; (repeat' split) <;> simp
@[simp] theorem writeUnderWarning_journal_n (s : State) (c : HostCycle) :
    (writeUnderWarning s c).journal.n = s.journal.n := by
  unfold writeUnderWarning; (repeat' split) <;> simp
@[simp] theorem writeUnderWarning_journal_capacity (s : State) (c : HostCycle) :
    (writeUnderWarning s c).journal.capacity = s.journal.capacity := by
  unfold writeUnderWarning; (repeat' split) <;> simp
@[simp] theorem writeUnderWarning_journal_epoch (s : State) (c : HostCycle) :
    (writeUnderWarning s c).journal.epoch = s.journal.epoch := by
  unfold writeUnderWarning; (repeat' split) <;> simp
@[simp] theorem writeUnderWarning_journal_slot (s : State) (c : HostCycle) :
    (writeUnderWarning s c).journal.slot = s.journal.slot := by
  unfold writeUnderWarning; (repeat' split) <;> simp
@[simp] theorem writeUnderWarning_journal_geometry (s : State) (c : HostCycle) :
    (writeUnderWarning s c).journal.geometry = s.journal.geometry := by
  unfold writeUnderWarning; (repeat' split) <;> simp
@[simp] theorem writeUnderWarning_journal_link (s : State) (c : HostCycle) :
    (writeUnderWarning s c).journal.link = s.journal.link := by
  unfold writeUnderWarning; (repeat' split) <;> simp
@[simp] theorem writeUnderWarning_txn_op (s : State) (c : HostCycle) :
    (writeUnderWarning s c).txn.op = s.txn.op := by
  unfold writeUnderWarning; (repeat' split) <;> simp
@[simp] theorem writeUnderWarning_txn_stage (s : State) (c : HostCycle) :
    (writeUnderWarning s c).txn.stage = s.txn.stage := by
  unfold writeUnderWarning; (repeat' split) <;> simp
@[simp] theorem writeUnderWarning_txn_found (s : State) (c : HostCycle) :
    (writeUnderWarning s c).txn.found = s.txn.found := by
  unfold writeUnderWarning; (repeat' split) <;> simp
@[simp] theorem writeUnderWarning_txn_headerWritten (s : State) (c : HostCycle) :
    (writeUnderWarning s c).txn.headerWritten = s.txn.headerWritten := by
  unfold writeUnderWarning; (repeat' split) <;> simp
@[simp] theorem writeUnderWarning_txn_endState (s : State) (c : HostCycle) :
    (writeUnderWarning s c).txn.endState = s.txn.endState := by
  unfold writeUnderWarning; (repeat' split) <;> simp
@[simp] theorem writeUnderWarning_port_inFlight (s : State) (c : HostCycle) :
    (writeUnderWarning s c).port.inFlight = s.port.inFlight := by
  unfold writeUnderWarning; (repeat' split) <;> simp
@[simp] theorem writeUnderWarning_port_yieldLimit (s : State) (c : HostCycle) :
    (writeUnderWarning s c).port.yieldLimit = s.port.yieldLimit := by
  unfold writeUnderWarning; (repeat' split) <;> simp
@[simp] theorem writeUnderWarning_port_strap (s : State) (c : HostCycle) :
    (writeUnderWarning s c).port.strap = s.port.strap := by
  unfold writeUnderWarning; (repeat' split) <;> simp
@[simp] theorem writeUnderWarning_port_yieldControl (s : State) (c : HostCycle) :
    (writeUnderWarning s c).port.yieldControl = s.port.yieldControl := by
  unfold writeUnderWarning; (repeat' split) <;> simp
@[simp] theorem writeUnderWarning_port_yieldEngine (s : State) (c : HostCycle) :
    (writeUnderWarning s c).port.yieldEngine = s.port.yieldEngine := by
  unfold writeUnderWarning; (repeat' split) <;> simp
@[simp] theorem writeUnderWarning_port_claimEngine (s : State) (c : HostCycle) :
    (writeUnderWarning s c).port.claimEngine = s.port.claimEngine := by
  unfold writeUnderWarning; (repeat' split) <;> simp

@[simp] theorem hostOnWarning_status_snapshot (s : State) :
    (hostOnWarning s).status.snapshot = s.status.snapshot := by
  unfold hostOnWarning; (repeat' split) <;> simp
@[simp] theorem hostOnWarning_status_attention (s : State) :
    (hostOnWarning s).status.attention = s.status.attention := by
  unfold hostOnWarning; (repeat' split) <;> simp
@[simp] theorem hostOnWarning_config_loaded (s : State) :
    (hostOnWarning s).config.loaded = s.config.loaded := by
  unfold hostOnWarning; (repeat' split) <;> simp
@[simp] theorem hostOnWarning_config_origin (s : State) :
    (hostOnWarning s).config.origin = s.config.origin := by
  unfold hostOnWarning; (repeat' split) <;> simp
@[simp] theorem hostOnWarning_config_adopting (s : State) :
    (hostOnWarning s).config.adopting = s.config.adopting := by
  unfold hostOnWarning; (repeat' split) <;> simp
@[simp] theorem hostOnWarning_config_buffer (s : State) :
    (hostOnWarning s).config.buffer = s.config.buffer := by
  unfold hostOnWarning; (repeat' split) <;> simp
@[simp] theorem hostOnWarning_journal_n (s : State) :
    (hostOnWarning s).journal.n = s.journal.n := by
  unfold hostOnWarning; (repeat' split) <;> simp
@[simp] theorem hostOnWarning_journal_capacity (s : State) :
    (hostOnWarning s).journal.capacity = s.journal.capacity := by
  unfold hostOnWarning; (repeat' split) <;> simp
@[simp] theorem hostOnWarning_journal_epoch (s : State) :
    (hostOnWarning s).journal.epoch = s.journal.epoch := by
  unfold hostOnWarning; (repeat' split) <;> simp
@[simp] theorem hostOnWarning_journal_slot (s : State) :
    (hostOnWarning s).journal.slot = s.journal.slot := by
  unfold hostOnWarning; (repeat' split) <;> simp
@[simp] theorem hostOnWarning_journal_geometry (s : State) :
    (hostOnWarning s).journal.geometry = s.journal.geometry := by
  unfold hostOnWarning; (repeat' split) <;> simp
@[simp] theorem hostOnWarning_journal_link (s : State) :
    (hostOnWarning s).journal.link = s.journal.link := by
  unfold hostOnWarning; (repeat' split) <;> simp
@[simp] theorem hostOnWarning_txn_op (s : State) : (hostOnWarning s).txn.op = s.txn.op := by
  unfold hostOnWarning; (repeat' split) <;> simp
@[simp] theorem hostOnWarning_txn_stage (s : State) :
    (hostOnWarning s).txn.stage = s.txn.stage := by
  unfold hostOnWarning; (repeat' split) <;> simp
@[simp] theorem hostOnWarning_txn_found (s : State) :
    (hostOnWarning s).txn.found = s.txn.found := by
  unfold hostOnWarning; (repeat' split) <;> simp
@[simp] theorem hostOnWarning_txn_headerWritten (s : State) :
    (hostOnWarning s).txn.headerWritten = s.txn.headerWritten := by
  unfold hostOnWarning; (repeat' split) <;> simp
@[simp] theorem hostOnWarning_txn_endState (s : State) :
    (hostOnWarning s).txn.endState = s.txn.endState := by
  unfold hostOnWarning; (repeat' split) <;> simp
@[simp] theorem hostOnWarning_port_inFlight (s : State) :
    (hostOnWarning s).port.inFlight = s.port.inFlight := by
  unfold hostOnWarning; (repeat' split) <;> simp
@[simp] theorem hostOnWarning_port_yieldLimit (s : State) :
    (hostOnWarning s).port.yieldLimit = s.port.yieldLimit := by
  unfold hostOnWarning; (repeat' split) <;> simp
@[simp] theorem hostOnWarning_port_strap (s : State) :
    (hostOnWarning s).port.strap = s.port.strap := by
  unfold hostOnWarning; (repeat' split) <;> simp
@[simp] theorem hostOnWarning_port_yieldControl (s : State) :
    (hostOnWarning s).port.yieldControl = s.port.yieldControl := by
  unfold hostOnWarning; (repeat' split) <;> simp
@[simp] theorem hostOnWarning_port_yieldEngine (s : State) :
    (hostOnWarning s).port.yieldEngine = s.port.yieldEngine := by
  unfold hostOnWarning; (repeat' split) <;> simp
@[simp] theorem hostOnWarning_port_claimEngine (s : State) :
    (hostOnWarning s).port.claimEngine = s.port.claimEngine := by
  unfold hostOnWarning; (repeat' split) <;> simp

@[simp] theorem captureLive_status_queue (s : State) (k : UpdateKind) (i : Nat) :
    (captureLive s k i).status.queue = s.status.queue := by
  unfold captureLive; (repeat' split) <;> simp
@[simp] theorem captureLive_status_dropped (s : State) (k : UpdateKind) (i : Nat) :
    (captureLive s k i).status.dropped = s.status.dropped := by
  unfold captureLive; (repeat' split) <;> simp
@[simp] theorem captureLive_status_refused (s : State) (k : UpdateKind) (i : Nat) :
    (captureLive s k i).status.refused = s.status.refused := by
  unfold captureLive; (repeat' split) <;> simp
@[simp] theorem captureLive_status_expired (s : State) (k : UpdateKind) (i : Nat) :
    (captureLive s k i).status.expired = s.status.expired := by
  unfold captureLive; (repeat' split) <;> simp
@[simp] theorem captureLive_status_startFaults (s : State) (k : UpdateKind) (i : Nat) :
    (captureLive s k i).status.startFaults = s.status.startFaults := by
  unfold captureLive; (repeat' split) <;> simp
@[simp] theorem captureLive_status_snapshot (s : State) (k : UpdateKind) (i : Nat) :
    (captureLive s k i).status.snapshot = s.status.snapshot := by
  unfold captureLive; (repeat' split) <;> simp
@[simp] theorem captureLive_status_owed (s : State) (k : UpdateKind) (i : Nat) :
    (captureLive s k i).status.owed = s.status.owed := by
  unfold captureLive; (repeat' split) <;> simp
@[simp] theorem captureLive_status_attention (s : State) (k : UpdateKind) (i : Nat) :
    (captureLive s k i).status.attention = s.status.attention := by
  unfold captureLive; (repeat' split) <;> simp

@[simp] theorem captureNumber_status_queue (s : State) (i : Nat) :
    (captureNumber s i).status.queue = s.status.queue := by
  unfold captureNumber; (repeat' split) <;> simp
@[simp] theorem captureNumber_status_dropped (s : State) (i : Nat) :
    (captureNumber s i).status.dropped = s.status.dropped := by
  unfold captureNumber; (repeat' split) <;> simp
@[simp] theorem captureNumber_status_refused (s : State) (i : Nat) :
    (captureNumber s i).status.refused = s.status.refused := by
  unfold captureNumber; (repeat' split) <;> simp
@[simp] theorem captureNumber_status_expired (s : State) (i : Nat) :
    (captureNumber s i).status.expired = s.status.expired := by
  unfold captureNumber; (repeat' split) <;> simp
@[simp] theorem captureNumber_status_startFaults (s : State) (i : Nat) :
    (captureNumber s i).status.startFaults = s.status.startFaults := by
  unfold captureNumber; (repeat' split) <;> simp
@[simp] theorem captureNumber_status_snapshot (s : State) (i : Nat) :
    (captureNumber s i).status.snapshot = s.status.snapshot := by
  unfold captureNumber; (repeat' split) <;> simp
@[simp] theorem captureNumber_status_owed (s : State) (i : Nat) :
    (captureNumber s i).status.owed = s.status.owed := by
  unfold captureNumber; (repeat' split) <;> simp
@[simp] theorem captureNumber_status_attention (s : State) (i : Nat) :
    (captureNumber s i).status.attention = s.status.attention := by
  unfold captureNumber; (repeat' split) <;> simp

@[simp] theorem captureArea_status_queue (s : State) (i : Nat) :
    (captureArea s i).status.queue = s.status.queue := by
  unfold captureArea; (repeat' split) <;> simp
@[simp] theorem captureArea_status_dropped (s : State) (i : Nat) :
    (captureArea s i).status.dropped = s.status.dropped := by
  unfold captureArea; (repeat' split) <;> simp
@[simp] theorem captureArea_status_refused (s : State) (i : Nat) :
    (captureArea s i).status.refused = s.status.refused := by
  unfold captureArea; (repeat' split) <;> simp
@[simp] theorem captureArea_status_expired (s : State) (i : Nat) :
    (captureArea s i).status.expired = s.status.expired := by
  unfold captureArea; (repeat' split) <;> simp
@[simp] theorem captureArea_status_startFaults (s : State) (i : Nat) :
    (captureArea s i).status.startFaults = s.status.startFaults := by
  unfold captureArea; (repeat' split) <;> simp
@[simp] theorem captureArea_status_snapshot (s : State) (i : Nat) :
    (captureArea s i).status.snapshot = s.status.snapshot := by
  unfold captureArea; (repeat' split) <;> simp
@[simp] theorem captureArea_status_attention (s : State) (i : Nat) :
    (captureArea s i).status.attention = s.status.attention := by
  unfold captureArea; (repeat' split) <;> simp

@[simp] theorem captureResult_status_queue (s : State) (i : Nat) :
    (captureResult s i).status.queue = s.status.queue := by
  unfold captureResult; (repeat' split) <;> simp
@[simp] theorem captureResult_status_dropped (s : State) (i : Nat) :
    (captureResult s i).status.dropped = s.status.dropped := by
  unfold captureResult; (repeat' split) <;> simp
@[simp] theorem captureResult_status_refused (s : State) (i : Nat) :
    (captureResult s i).status.refused = s.status.refused := by
  unfold captureResult; (repeat' split) <;> simp
@[simp] theorem captureResult_status_expired (s : State) (i : Nat) :
    (captureResult s i).status.expired = s.status.expired := by
  unfold captureResult; (repeat' split) <;> simp
@[simp] theorem captureResult_status_startFaults (s : State) (i : Nat) :
    (captureResult s i).status.startFaults = s.status.startFaults := by
  unfold captureResult; (repeat' split) <;> simp
@[simp] theorem captureResult_status_snapshot (s : State) (i : Nat) :
    (captureResult s i).status.snapshot = s.status.snapshot := by
  unfold captureResult; (repeat' split) <;> simp
@[simp] theorem captureResult_status_owed (s : State) (i : Nat) :
    (captureResult s i).status.owed = s.status.owed := by
  unfold captureResult; (repeat' split) <;> simp
@[simp] theorem captureResult_status_attention (s : State) (i : Nat) :
    (captureResult s i).status.attention = s.status.attention := by
  unfold captureResult; (repeat' split) <;> simp
@[simp] theorem captureResult_command_busy (s : State) (i : Nat) :
    (captureResult s i).command.busy = s.command.busy := by
  unfold captureResult; (repeat' split) <;> simp
@[simp] theorem captureResult_command_seq (s : State) (i : Nat) :
    (captureResult s i).command.seq = s.command.seq := by
  unfold captureResult; (repeat' split) <;> simp
@[simp] theorem captureResult_command_inFlight (s : State) (i : Nat) :
    (captureResult s i).command.inFlight = s.command.inFlight := by
  unfold captureResult; (repeat' split) <;> simp
@[simp] theorem captureResult_command_strobe (s : State) (i : Nat) :
    (captureResult s i).command.strobe = s.command.strobe := by
  unfold captureResult; (repeat' split) <;> simp

@[simp] theorem captureUpdate_status_queue (s : State) (k : UpdateKind) :
    (captureUpdate s k).status.queue = s.status.queue := by simp [captureUpdate]
@[simp] theorem captureUpdate_status_dropped (s : State) (k : UpdateKind) :
    (captureUpdate s k).status.dropped = s.status.dropped := by simp [captureUpdate]
@[simp] theorem captureUpdate_status_refused (s : State) (k : UpdateKind) :
    (captureUpdate s k).status.refused = s.status.refused := by simp [captureUpdate]
@[simp] theorem captureUpdate_status_expired (s : State) (k : UpdateKind) :
    (captureUpdate s k).status.expired = s.status.expired := by simp [captureUpdate]
@[simp] theorem captureUpdate_status_startFaults (s : State) (k : UpdateKind) :
    (captureUpdate s k).status.startFaults = s.status.startFaults := by simp [captureUpdate]
@[simp] theorem captureUpdate_status_snapshot (s : State) (k : UpdateKind) :
    (captureUpdate s k).status.snapshot = s.status.snapshot := by simp [captureUpdate]
@[simp] theorem captureUpdate_status_attention (s : State) (k : UpdateKind) :
    (captureUpdate s k).status.attention = s.status.attention := by simp [captureUpdate]
@[simp] theorem captureUpdate_command_busy (s : State) (k : UpdateKind) :
    (captureUpdate s k).command.busy = s.command.busy := by simp [captureUpdate]
@[simp] theorem captureUpdate_command_seq (s : State) (k : UpdateKind) :
    (captureUpdate s k).command.seq = s.command.seq := by simp [captureUpdate]
@[simp] theorem captureUpdate_command_inFlight (s : State) (k : UpdateKind) :
    (captureUpdate s k).command.inFlight = s.command.inFlight := by simp [captureUpdate]
@[simp] theorem captureUpdate_command_strobe (s : State) (k : UpdateKind) :
    (captureUpdate s k).command.strobe = s.command.strobe := by simp [captureUpdate]

@[simp] theorem grantHost_host_hfault (s : State) : (grantHost s).host.hfault = s.host.hfault := by
  unfold grantHost; (repeat' split) <;> simp
@[simp] theorem grantHost_host_data (s : State) : (grantHost s).host.data = s.host.data := by
  unfold grantHost; (repeat' split) <;> simp
@[simp] theorem grantHost_port_yieldLimit (s : State) :
    (grantHost s).port.yieldLimit = s.port.yieldLimit := by
  unfold grantHost; (repeat' split) <;> simp
@[simp] theorem grantHost_port_strap (s : State) : (grantHost s).port.strap = s.port.strap := by
  unfold grantHost; (repeat' split) <;> simp
@[simp] theorem grantHost_port_claimControl (s : State) :
    (grantHost s).port.claimControl = s.port.claimControl := by
  unfold grantHost; (repeat' split) <;> simp
@[simp] theorem grantHost_port_claimEngine (s : State) :
    (grantHost s).port.claimEngine = s.port.claimEngine := by
  unfold grantHost; (repeat' split) <;> simp

@[simp] theorem captureControl_status_queue (s : State) :
    (captureControl s).status.queue = s.status.queue := by
  unfold captureControl; (repeat' split) <;> simp
@[simp] theorem captureControl_status_dropped (s : State) :
    (captureControl s).status.dropped = s.status.dropped := by
  unfold captureControl; (repeat' split) <;> simp
@[simp] theorem captureControl_status_refused (s : State) :
    (captureControl s).status.refused = s.status.refused := by
  unfold captureControl; (repeat' split) <;> simp
@[simp] theorem captureControl_status_expired (s : State) :
    (captureControl s).status.expired = s.status.expired := by
  unfold captureControl; (repeat' split) <;> simp
@[simp] theorem captureControl_status_startFaults (s : State) :
    (captureControl s).status.startFaults = s.status.startFaults := by
  unfold captureControl; (repeat' split) <;> simp
@[simp] theorem captureControl_status_snapshot (s : State) :
    (captureControl s).status.snapshot = s.status.snapshot := by
  unfold captureControl; (repeat' split) <;> simp
@[simp] theorem captureControl_status_attention (s : State) :
    (captureControl s).status.attention = s.status.attention := by
  unfold captureControl; (repeat' split) <;> simp
@[simp] theorem captureControl_command_busy (s : State) :
    (captureControl s).command.busy = s.command.busy := by
  unfold captureControl; (repeat' split) <;> simp
@[simp] theorem captureControl_command_seq (s : State) :
    (captureControl s).command.seq = s.command.seq := by
  unfold captureControl; (repeat' split) <;> simp
@[simp] theorem captureControl_command_inFlight (s : State) :
    (captureControl s).command.inFlight = s.command.inFlight := by
  unfold captureControl; (repeat' split) <;> simp
@[simp] theorem captureControl_command_strobe (s : State) :
    (captureControl s).command.strobe = s.command.strobe := by
  unfold captureControl; (repeat' split) <;> simp

@[simp] theorem grantControl_status_queue (s : State) :
    (grantControl s).status.queue = s.status.queue := by simp [grantControl]
@[simp] theorem grantControl_status_dropped (s : State) :
    (grantControl s).status.dropped = s.status.dropped := by simp [grantControl]
@[simp] theorem grantControl_status_refused (s : State) :
    (grantControl s).status.refused = s.status.refused := by simp [grantControl]
@[simp] theorem grantControl_status_expired (s : State) :
    (grantControl s).status.expired = s.status.expired := by simp [grantControl]
@[simp] theorem grantControl_status_startFaults (s : State) :
    (grantControl s).status.startFaults = s.status.startFaults := by simp [grantControl]
@[simp] theorem grantControl_status_snapshot (s : State) :
    (grantControl s).status.snapshot = s.status.snapshot := by simp [grantControl]
@[simp] theorem grantControl_status_attention (s : State) :
    (grantControl s).status.attention = s.status.attention := by simp [grantControl]
@[simp] theorem grantControl_command_busy (s : State) :
    (grantControl s).command.busy = s.command.busy := by simp [grantControl]
@[simp] theorem grantControl_command_seq (s : State) :
    (grantControl s).command.seq = s.command.seq := by simp [grantControl]
@[simp] theorem grantControl_command_inFlight (s : State) :
    (grantControl s).command.inFlight = s.command.inFlight := by simp [grantControl]
@[simp] theorem grantControl_command_strobe (s : State) :
    (grantControl s).command.strobe = s.command.strobe := by simp [grantControl]
@[simp] theorem grantControl_port_yieldLimit (s : State) :
    (grantControl s).port.yieldLimit = s.port.yieldLimit := by simp [grantControl]
@[simp] theorem grantControl_port_strap (s : State) :
    (grantControl s).port.strap = s.port.strap := by simp [grantControl]
@[simp] theorem grantControl_port_yieldEngine (s : State) :
    (grantControl s).port.yieldEngine = s.port.yieldEngine := by simp [grantControl]
@[simp] theorem grantControl_port_claimHost (s : State) :
    (grantControl s).port.claimHost = s.port.claimHost := by simp [grantControl]
@[simp] theorem grantControl_port_claimEngine (s : State) :
    (grantControl s).port.claimEngine = s.port.claimEngine := by simp [grantControl]

@[simp] theorem grantEngine_port_yieldLimit (s : State) :
    (grantEngine s).port.yieldLimit = s.port.yieldLimit := by simp [grantEngine]
@[simp] theorem grantEngine_port_strap (s : State) :
    (grantEngine s).port.strap = s.port.strap := by simp [grantEngine]
@[simp] theorem grantEngine_port_yieldControl (s : State) :
    (grantEngine s).port.yieldControl = s.port.yieldControl := by simp [grantEngine]
@[simp] theorem grantEngine_port_claimHost (s : State) :
    (grantEngine s).port.claimHost = s.port.claimHost := by simp [grantEngine]
@[simp] theorem grantEngine_port_claimControl (s : State) :
    (grantEngine s).port.claimControl = s.port.claimControl := by simp [grantEngine]

@[simp] theorem arbitrate_status_queue (s : State) :
    (arbitrate s).status.queue = s.status.queue := by
  unfold arbitrate; (repeat' split) <;> simp
@[simp] theorem arbitrate_status_dropped (s : State) :
    (arbitrate s).status.dropped = s.status.dropped := by
  unfold arbitrate; (repeat' split) <;> simp
@[simp] theorem arbitrate_status_refused (s : State) :
    (arbitrate s).status.refused = s.status.refused := by
  unfold arbitrate; (repeat' split) <;> simp
@[simp] theorem arbitrate_status_expired (s : State) :
    (arbitrate s).status.expired = s.status.expired := by
  unfold arbitrate; (repeat' split) <;> simp
@[simp] theorem arbitrate_status_startFaults (s : State) :
    (arbitrate s).status.startFaults = s.status.startFaults := by
  unfold arbitrate; (repeat' split) <;> simp
@[simp] theorem arbitrate_status_snapshot (s : State) :
    (arbitrate s).status.snapshot = s.status.snapshot := by
  unfold arbitrate; (repeat' split) <;> simp
@[simp] theorem arbitrate_status_attention (s : State) :
    (arbitrate s).status.attention = s.status.attention := by
  unfold arbitrate; (repeat' split) <;> simp
@[simp] theorem arbitrate_command_busy (s : State) :
    (arbitrate s).command.busy = s.command.busy := by
  unfold arbitrate; (repeat' split) <;> simp
@[simp] theorem arbitrate_command_seq (s : State) : (arbitrate s).command.seq = s.command.seq := by
  unfold arbitrate; (repeat' split) <;> simp
@[simp] theorem arbitrate_command_inFlight (s : State) :
    (arbitrate s).command.inFlight = s.command.inFlight := by
  unfold arbitrate; (repeat' split) <;> simp
@[simp] theorem arbitrate_command_strobe (s : State) :
    (arbitrate s).command.strobe = s.command.strobe := by
  unfold arbitrate; (repeat' split) <;> simp
@[simp] theorem arbitrate_host_hfault (s : State) : (arbitrate s).host.hfault = s.host.hfault := by
  unfold arbitrate; (repeat' split) <;> simp
@[simp] theorem arbitrate_host_data (s : State) : (arbitrate s).host.data = s.host.data := by
  unfold arbitrate; (repeat' split) <;> simp
@[simp] theorem arbitrate_port_yieldLimit (s : State) :
    (arbitrate s).port.yieldLimit = s.port.yieldLimit := by
  unfold arbitrate; (repeat' split) <;> simp
@[simp] theorem arbitrate_port_strap (s : State) : (arbitrate s).port.strap = s.port.strap := by
  unfold arbitrate; (repeat' split) <;> simp

@[simp] theorem settle_status_queue (s : State) :
    (settle s).status.queue = s.status.queue := by simp [settle]
@[simp] theorem settle_status_dropped (s : State) :
    (settle s).status.dropped = s.status.dropped := by simp [settle]
@[simp] theorem settle_status_refused (s : State) :
    (settle s).status.refused = s.status.refused := by simp [settle]
@[simp] theorem settle_status_expired (s : State) :
    (settle s).status.expired = s.status.expired := by simp [settle]
@[simp] theorem settle_status_startFaults (s : State) :
    (settle s).status.startFaults = s.status.startFaults := by simp [settle]
@[simp] theorem settle_status_snapshot (s : State) :
    (settle s).status.snapshot = s.status.snapshot := by simp [settle]
@[simp] theorem settle_status_attention (s : State) :
    (settle s).status.attention = s.status.attention := by simp [settle]
@[simp] theorem settle_command_busy (s : State) :
    (settle s).command.busy = s.command.busy := by simp [settle]
@[simp] theorem settle_command_seq (s : State) :
    (settle s).command.seq = s.command.seq := by simp [settle]
@[simp] theorem settle_command_inFlight (s : State) :
    (settle s).command.inFlight = s.command.inFlight := by simp [settle]
@[simp] theorem settle_command_strobe (s : State) :
    (settle s).command.strobe = s.command.strobe := by simp [settle]
@[simp] theorem settle_host_hfault (s : State) :
    (settle s).host.hfault = s.host.hfault := by simp [settle]
@[simp] theorem settle_host_data (s : State) :
    (settle s).host.data = s.host.data := by simp [settle]
@[simp] theorem settle_port_yieldLimit (s : State) :
    (settle s).port.yieldLimit = s.port.yieldLimit := by simp [settle]
@[simp] theorem settle_port_strap (s : State) :
    (settle s).port.strap = s.port.strap := by simp [settle]

@[simp] theorem landCycle_port_yieldLimit (s : State) (c : MemCycle) :
    (landCycle s c).port.yieldLimit = s.port.yieldLimit := by
  unfold landCycle; (repeat' split) <;> simp
@[simp] theorem landCycle_port_strap (s : State) (c : MemCycle) :
    (landCycle s c).port.strap = s.port.strap := by
  unfold landCycle; (repeat' split) <;> simp
@[simp] theorem landCycle_port_yieldControl (s : State) (c : MemCycle) :
    (landCycle s c).port.yieldControl = s.port.yieldControl := by
  unfold landCycle; (repeat' split) <;> simp
@[simp] theorem landCycle_port_yieldEngine (s : State) (c : MemCycle) :
    (landCycle s c).port.yieldEngine = s.port.yieldEngine := by
  unfold landCycle; (repeat' split) <;> simp
@[simp] theorem landCycle_port_claimHost (s : State) (c : MemCycle) :
    (landCycle s c).port.claimHost = s.port.claimHost := by
  unfold landCycle; (repeat' split) <;> simp
@[simp] theorem landCycle_port_claimControl (s : State) (c : MemCycle) :
    (landCycle s c).port.claimControl = s.port.claimControl := by
  unfold landCycle; (repeat' split) <;> simp
@[simp] theorem landCycle_port_claimEngine (s : State) (c : MemCycle) :
    (landCycle s c).port.claimEngine = s.port.claimEngine := by
  unfold landCycle; (repeat' split) <;> simp

@[simp] theorem engineKeeps_engine_run (s : State) (b : Byte) :
    (engineKeeps s b).engine.run = s.engine.run := by simp [engineKeeps]
@[simp] theorem engineKeeps_engine_cursor (s : State) (b : Byte) :
    (engineKeeps s b).engine.cursor = s.engine.cursor := by simp [engineKeeps]
@[simp] theorem engineKeeps_engine_stop (s : State) (b : Byte) :
    (engineKeeps s b).engine.stop = s.engine.stop := by simp [engineKeeps]
@[simp] theorem engineKeeps_engine_target (s : State) (b : Byte) :
    (engineKeeps s b).engine.target = s.engine.target := by simp [engineKeeps]
@[simp] theorem engineKeeps_engine_count (s : State) (b : Byte) :
    (engineKeeps s b).engine.count = s.engine.count := by simp [engineKeeps]
@[simp] theorem engineKeeps_engine_reason (s : State) (b : Byte) :
    (engineKeeps s b).engine.reason = s.engine.reason := by simp [engineKeeps]
@[simp] theorem engineKeeps_engine_lastLink (s : State) (b : Byte) :
    (engineKeeps s b).engine.lastLink = s.engine.lastLink := by simp [engineKeeps]

@[simp] theorem configKeeps_config_loaded (s : State) (b : Byte) :
    (configKeeps s b).config.loaded = s.config.loaded := by simp [configKeeps]
@[simp] theorem configKeeps_config_origin (s : State) (b : Byte) :
    (configKeeps s b).config.origin = s.config.origin := by simp [configKeeps]
@[simp] theorem configKeeps_config_adopting (s : State) (b : Byte) :
    (configKeeps s b).config.adopting = s.config.adopting := by simp [configKeeps]
@[simp] theorem configKeeps_config_readWaits (s : State) (b : Byte) :
    (configKeeps s b).config.readWaits = s.config.readWaits := by simp [configKeeps]

@[simp] theorem configWrote_config_loaded (s : State) :
    (configWrote s).config.loaded = s.config.loaded := by simp [configWrote]
@[simp] theorem configWrote_config_origin (s : State) :
    (configWrote s).config.origin = s.config.origin := by simp [configWrote]
@[simp] theorem configWrote_config_adopting (s : State) :
    (configWrote s).config.adopting = s.config.adopting := by simp [configWrote]
@[simp] theorem configWrote_config_buffer (s : State) :
    (configWrote s).config.buffer = s.config.buffer := by simp [configWrote]
@[simp] theorem configWrote_config_readWaits (s : State) :
    (configWrote s).config.readWaits = s.config.readWaits := by simp [configWrote]

end Sys2Proof.Machine
end

