-- ==== Sys2Proof/Laws/Port.lean ====
section
/-! SUPPORT. What an arbitration and the close of a step do, each said once (R112, R115, R116, R84). -/

-- One declaration at a time: the package as one text then needs few threads.
set_option Elab.async false

namespace Sys2Proof.Machine

/-- A grant is decided only for a claimant whose claim stands. -/
theorem decideGrant_claims (p : Port) (c : Claimant) (h : decideGrant p = some c) :
    (c = .host → p.claimHost = true) ∧ (c = .control → p.claimControl = true) ∧
      (c = .engine → p.claimEngine = true) := by
  unfold decideGrant at h
  (repeat' split at h) <;> simp_all <;> cases h <;> simp_all

/-- No grant is decided only when no claim stands. -/
theorem decideGrant_none (p : Port) :
    decideGrant p = none ↔ p.claimHost = false ∧ p.claimControl = false ∧ p.claimEngine = false := by
  unfold decideGrant
  cases p.claimHost <;> cases p.claimControl <;> cases p.claimEngine <;> simp <;> (repeat' split) <;> simp

/-- A decision leaves the state alone while a cycle is in flight or no claim stands, and otherwise is one of the
three grants. -/
theorem arbitrate_cases (s : State) :
    (arbitrate s = s ∧ (s.port.inFlight.isSome = true ∨ decideGrant s.port = none)) ∨
      (s.port.inFlight = none ∧ decideGrant s.port = some .host ∧ arbitrate s = grantHost s) ∨
      (s.port.inFlight = none ∧ decideGrant s.port = some .control ∧ arbitrate s = grantControl s) ∨
      (s.port.inFlight = none ∧ decideGrant s.port = some .engine ∧ arbitrate s = grantEngine s) := by
  unfold arbitrate
  split
  · simp_all
  · split <;> simp_all

@[simp] theorem settle_port (s : State) : (settle s).port = (arbitrate s).port := by simp [settle]

@[simp] theorem settle_status (s : State) : (settle s).status = (arbitrate s).status := by simp [settle]

@[simp] theorem settle_command (s : State) : (settle s).command = (arbitrate s).command := by
  simp [settle]

theorem grantHost_port (s : State) :
    (grantHost s).port = { s.port with
      inFlight := hostCycle s, claimHost := false,
      yieldControl := if s.port.claimControl then sat8 s.port.yieldControl else s.port.yieldControl,
      yieldEngine := if s.port.claimEngine then sat8 s.port.yieldEngine else s.port.yieldEngine } := by
  unfold grantHost; split <;> simp

/-- Capturing a record changes no memory cycle but the bytes it writes. -/
theorem controlCycle_isSome (s : State) :
    (controlCycle s).isSome = s.control.current.isSome := by simp [controlCycle]

theorem grantControl_port (s : State) :
    (grantControl s).port = { s.port with
      inFlight := controlCycle (captureControl s), claimControl := false, yieldControl := 0 } := by
  simp [grantControl]

theorem grantEngine_port (s : State) :
    (grantEngine s).port = { s.port with
      inFlight := engineCycle s, claimEngine := false, yieldEngine := 0 } := rfl

theorem hostCycle_claimant (s : State) (m : MemCycle) (h : hostCycle s = some m) :
    m.claimant = .host := by
  unfold hostCycle at h
  split at h
  · cases h; unfold appendCycle; dsimp only; (repeat' split) <;> rfl
  · cases h; rfl
  · cases h

theorem sequenceCycle_claimant (s : State) (k : Sequence) :
    (sequenceCycle s k).claimant = .control := by
  cases k <;> first | rfl | (unfold sequenceCycle updateCycle; dsimp only; (repeat' split) <;> rfl)

theorem controlCycle_claimant (s : State) (m : MemCycle) (h : controlCycle s = some m) :
    m.claimant = .control := by
  simp only [controlCycle, Option.map_eq_some_iff] at h
  obtain ⟨k, -, rfl⟩ := h
  exact sequenceCycle_claimant s k

theorem engineCycle_claimant (s : State) (m : MemCycle) (h : engineCycle s = some m) :
    m.claimant = .engine := by
  unfold engineCycle at h
  dsimp only at h
  (repeat' split at h) <;> cases h <;> rfl

/-- A standing engine claim with a cursor still stands after the decision, or is granted. -/
theorem arbitrate_engine_claim (s : State) (h : s.port.claimEngine = true)
    (hc : s.engine.cursor.isSome = true) :
    (arbitrate s).port.claimEngine = true ∨ (arbitrate s).inFlightFor .engine = true := by
  rcases arbitrate_cases s with ⟨h1, -⟩ | ⟨-, -, h1⟩ | ⟨-, -, h1⟩ | ⟨-, -, h1⟩
  · simp [h1, h]
  · simp [h1, grantHost_port, h]
  · simp [h1, grantControl_port, h]
  · right
    obtain ⟨p, hp⟩ := Option.isSome_iff_exists.mp hc
    have he : (engineCycle s).isSome = true := by
      simp only [engineCycle, hp]; split <;> rfl
    obtain ⟨m, hm⟩ := Option.isSome_iff_exists.mp he
    simp [State.inFlightFor, h1, grantEngine_port, hm, engineCycle_claimant s m hm]

/-- A standing control claim for a sequence in progress still stands after the decision, or is granted. -/
theorem arbitrate_control_claim (s : State) (h : s.port.claimControl = true)
    (hc : s.control.current.isSome = true) :
    (arbitrate s).port.claimControl = true ∨ (arbitrate s).inFlightFor .control = true := by
  rcases arbitrate_cases s with ⟨h1, -⟩ | ⟨-, -, h1⟩ | ⟨-, -, h1⟩ | ⟨-, -, h1⟩
  · simp [h1, h]
  · simp [h1, grantHost_port, h]
  · right
    have he := controlCycle_isSome (captureControl s)
    simp only [captureControl_control, hc] at he
    obtain ⟨m, hm⟩ := Option.isSome_iff_exists.mp he
    simp [State.inFlightFor, h1, grantControl_port, hm, controlCycle_claimant _ m hm]
  · simp [h1, grantEngine_port, h]

/-- With no cycle on the host bus the close of a step leaves the host port as it is. -/
theorem settle_host_of_none (s : State) (h : s.host.cycle = none) : (settle s).host = s.host := by
  have ha : (arbitrate s).host = s.host := by
    rcases arbitrate_cases s with ⟨h1, -⟩ | ⟨-, -, h1⟩ | ⟨-, -, h1⟩ | ⟨-, -, h1⟩ <;> rw [h1]
    · unfold grantHost; split <;> simp_all
    · simp
    · simp
  unfold settle startTimer
  split
  · rename_i heq _
    rw [ha, h] at heq
    cases heq
  · exact ha

/-- A decision changes the cycle on the host bus in its hold cause alone, and only from MEMORY to none, at a
grant to the host path (R67). -/
theorem arbitrate_host_cycle (s : State) (c : HostCycle) (h : s.host.cycle = some c)
    (hc : c.cause ≠ some .memory) : (arbitrate s).host = s.host := by
  rcases arbitrate_cases s with ⟨h1, -⟩ | ⟨-, -, h1⟩ | ⟨-, -, h1⟩ | ⟨-, -, h1⟩ <;> rw [h1]
  · unfold grantHost; split
    · rename_i heq; rw [h] at heq; cases heq; simp at hc
    · simp
  · simp
  · simp

end Sys2Proof.Machine
end

