-- ==== Sys2Proof/Laws/RowFrames.lean ====
section
/-! SUPPORT. What the steps the rows are built from leave unchanged, block by block. -/

-- One declaration at a time: the package as one text then needs few threads.
set_option Elab.async false

namespace Sys2Proof.Machine

@[simp] theorem resetBlocks_mem (s : State) : (resetBlocks s).mem = s.mem := by simp [resetBlocks]
@[simp] theorem resetBlocks_warning (s : State) :
    (resetBlocks s).warning = s.warning := by simp [resetBlocks]
@[simp] theorem resetBlocks_free (s : State) :
    (resetBlocks s).free = s.free := by simp [resetBlocks]
@[simp] theorem resetBlocks_pending (s : State) :
    (resetBlocks s).pending = s.pending := by simp [resetBlocks]

@[simp] theorem raiseWarning_mem (s : State) :
    (raiseWarning s).mem = s.mem := by simp [raiseWarning]
@[simp] theorem raiseWarning_host (s : State) :
    (raiseWarning s).host = s.host := by simp [raiseWarning]
@[simp] theorem raiseWarning_decoder (s : State) :
    (raiseWarning s).decoder = s.decoder := by simp [raiseWarning]
@[simp] theorem raiseWarning_txn (s : State) :
    (raiseWarning s).txn = s.txn := by simp [raiseWarning]
@[simp] theorem raiseWarning_journal (s : State) :
    (raiseWarning s).journal = s.journal := by simp [raiseWarning]
@[simp] theorem raiseWarning_tracker (s : State) :
    (raiseWarning s).tracker = s.tracker := by simp [raiseWarning]
@[simp] theorem raiseWarning_engine (s : State) :
    (raiseWarning s).engine = s.engine := by simp [raiseWarning]
@[simp] theorem raiseWarning_command (s : State) :
    (raiseWarning s).command = s.command := by simp [raiseWarning]
@[simp] theorem raiseWarning_warning (s : State) :
    (raiseWarning s).warning = s.warning := by simp [raiseWarning]
@[simp] theorem raiseWarning_resetting (s : State) :
    (raiseWarning s).resetting = s.resetting := by simp [raiseWarning]
@[simp] theorem raiseWarning_free (s : State) :
    (raiseWarning s).free = s.free := by simp [raiseWarning]
@[simp] theorem raiseWarning_pending (s : State) :
    (raiseWarning s).pending = s.pending := by simp [raiseWarning]

@[simp] theorem leaveReset_mem (s : State) (msz : BitVec 3) (pwarnHigh : Bool) (cstrbHigh : Bool) :
    (leaveReset s msz pwarnHigh cstrbHigh).mem = s.mem := by
  unfold leaveReset; (repeat' split) <;> simp
@[simp] theorem leaveReset_host (s : State) (msz : BitVec 3) (pwarnHigh : Bool) (cstrbHigh : Bool) :
    (leaveReset s msz pwarnHigh cstrbHigh).host = s.host := by
  unfold leaveReset; (repeat' split) <;> simp
@[simp] theorem leaveReset_decoder (s : State) (msz : BitVec 3) (pwarnHigh : Bool) (cstrbHigh : Bool) :
    (leaveReset s msz pwarnHigh cstrbHigh).decoder = s.decoder := by
  unfold leaveReset; (repeat' split) <;> simp
@[simp] theorem leaveReset_journal (s : State) (msz : BitVec 3) (pwarnHigh : Bool) (cstrbHigh : Bool) :
    (leaveReset s msz pwarnHigh cstrbHigh).journal = s.journal := by
  unfold leaveReset; (repeat' split) <;> simp
@[simp] theorem leaveReset_tracker (s : State) (msz : BitVec 3) (pwarnHigh : Bool) (cstrbHigh : Bool) :
    (leaveReset s msz pwarnHigh cstrbHigh).tracker = s.tracker := by
  unfold leaveReset; (repeat' split) <;> simp
@[simp] theorem leaveReset_engine (s : State) (msz : BitVec 3) (pwarnHigh : Bool) (cstrbHigh : Bool) :
    (leaveReset s msz pwarnHigh cstrbHigh).engine = s.engine := by
  unfold leaveReset; (repeat' split) <;> simp
@[simp] theorem leaveReset_free (s : State) (msz : BitVec 3) (pwarnHigh : Bool) (cstrbHigh : Bool) :
    (leaveReset s msz pwarnHigh cstrbHigh).free = s.free := by
  unfold leaveReset; (repeat' split) <;> simp
@[simp] theorem leaveReset_pending (s : State) (msz : BitVec 3) (pwarnHigh : Bool) (cstrbHigh : Bool) :
    (leaveReset s msz pwarnHigh cstrbHigh).pending = s.pending := by
  unfold leaveReset; (repeat' split) <;> simp

@[simp] theorem engineOnWarning_mem (s : State) : (engineOnWarning s).mem = s.mem := by
  unfold engineOnWarning; (repeat' split) <;> simp
@[simp] theorem engineOnWarning_host (s : State) : (engineOnWarning s).host = s.host := by
  unfold engineOnWarning; (repeat' split) <;> simp
@[simp] theorem engineOnWarning_decoder (s : State) : (engineOnWarning s).decoder = s.decoder := by
  unfold engineOnWarning; (repeat' split) <;> simp
@[simp] theorem engineOnWarning_txn (s : State) : (engineOnWarning s).txn = s.txn := by
  unfold engineOnWarning; (repeat' split) <;> simp
@[simp] theorem engineOnWarning_journal (s : State) : (engineOnWarning s).journal = s.journal := by
  unfold engineOnWarning; (repeat' split) <;> simp
@[simp] theorem engineOnWarning_tracker (s : State) : (engineOnWarning s).tracker = s.tracker := by
  unfold engineOnWarning; (repeat' split) <;> simp
@[simp] theorem engineOnWarning_control (s : State) : (engineOnWarning s).control = s.control := by
  unfold engineOnWarning; (repeat' split) <;> simp
@[simp] theorem engineOnWarning_command (s : State) : (engineOnWarning s).command = s.command := by
  unfold engineOnWarning; (repeat' split) <;> simp
@[simp] theorem engineOnWarning_status (s : State) : (engineOnWarning s).status = s.status := by
  unfold engineOnWarning; (repeat' split) <;> simp
@[simp] theorem engineOnWarning_config (s : State) : (engineOnWarning s).config = s.config := by
  unfold engineOnWarning; (repeat' split) <;> simp
@[simp] theorem engineOnWarning_warning (s : State) : (engineOnWarning s).warning = s.warning := by
  unfold engineOnWarning; (repeat' split) <;> simp
@[simp] theorem engineOnWarning_resetting (s : State) :
    (engineOnWarning s).resetting = s.resetting := by
  unfold engineOnWarning; (repeat' split) <;> simp
@[simp] theorem engineOnWarning_free (s : State) : (engineOnWarning s).free = s.free := by
  unfold engineOnWarning; (repeat' split) <;> simp
@[simp] theorem engineOnWarning_pending (s : State) : (engineOnWarning s).pending = s.pending := by
  unfold engineOnWarning; (repeat' split) <;> simp

@[simp] theorem reportWarning_mem (s : State) : (reportWarning s).mem = s.mem := by
  unfold reportWarning; (repeat' split) <;> simp
@[simp] theorem reportWarning_decoder (s : State) : (reportWarning s).decoder = s.decoder := by
  unfold reportWarning; (repeat' split) <;> simp
@[simp] theorem reportWarning_tracker (s : State) : (reportWarning s).tracker = s.tracker := by
  unfold reportWarning; (repeat' split) <;> simp
@[simp] theorem reportWarning_engine (s : State) : (reportWarning s).engine = s.engine := by
  unfold reportWarning; (repeat' split) <;> simp
@[simp] theorem reportWarning_command (s : State) : (reportWarning s).command = s.command := by
  unfold reportWarning; (repeat' split) <;> simp
@[simp] theorem reportWarning_warning (s : State) : (reportWarning s).warning = s.warning := by
  unfold reportWarning; (repeat' split) <;> simp
@[simp] theorem reportWarning_resetting (s : State) :
    (reportWarning s).resetting = s.resetting := by
  unfold reportWarning; (repeat' split) <;> simp
@[simp] theorem reportWarning_pending (s : State) : (reportWarning s).pending = s.pending := by
  unfold reportWarning; (repeat' split) <;> simp

@[simp] theorem warningAsserts_mem (s : State) :
    (warningAsserts s).mem = s.mem := by simp [warningAsserts]
@[simp] theorem warningAsserts_decoder (s : State) :
    (warningAsserts s).decoder = s.decoder := by simp [warningAsserts]
@[simp] theorem warningAsserts_tracker (s : State) :
    (warningAsserts s).tracker = s.tracker := by simp [warningAsserts]
@[simp] theorem warningAsserts_command (s : State) :
    (warningAsserts s).command = s.command := by simp [warningAsserts]
@[simp] theorem warningAsserts_resetting (s : State) :
    (warningAsserts s).resetting = s.resetting := by simp [warningAsserts]
@[simp] theorem warningAsserts_pending (s : State) :
    (warningAsserts s).pending = s.pending := by simp [warningAsserts]

@[simp] theorem engineResumes_mem (s : State) : (engineResumes s).mem = s.mem := by
  unfold engineResumes; (repeat' split) <;> simp
@[simp] theorem engineResumes_host (s : State) : (engineResumes s).host = s.host := by
  unfold engineResumes; (repeat' split) <;> simp
@[simp] theorem engineResumes_decoder (s : State) : (engineResumes s).decoder = s.decoder := by
  unfold engineResumes; (repeat' split) <;> simp
@[simp] theorem engineResumes_txn (s : State) : (engineResumes s).txn = s.txn := by
  unfold engineResumes; (repeat' split) <;> simp
@[simp] theorem engineResumes_journal (s : State) : (engineResumes s).journal = s.journal := by
  unfold engineResumes; (repeat' split) <;> simp
@[simp] theorem engineResumes_tracker (s : State) : (engineResumes s).tracker = s.tracker := by
  unfold engineResumes; (repeat' split) <;> simp
@[simp] theorem engineResumes_control (s : State) : (engineResumes s).control = s.control := by
  unfold engineResumes; (repeat' split) <;> simp
@[simp] theorem engineResumes_command (s : State) : (engineResumes s).command = s.command := by
  unfold engineResumes; (repeat' split) <;> simp
@[simp] theorem engineResumes_status (s : State) : (engineResumes s).status = s.status := by
  unfold engineResumes; (repeat' split) <;> simp
@[simp] theorem engineResumes_config (s : State) : (engineResumes s).config = s.config := by
  unfold engineResumes; (repeat' split) <;> simp
@[simp] theorem engineResumes_warning (s : State) : (engineResumes s).warning = s.warning := by
  unfold engineResumes; (repeat' split) <;> simp
@[simp] theorem engineResumes_resetting (s : State) :
    (engineResumes s).resetting = s.resetting := by
  unfold engineResumes; (repeat' split) <;> simp
@[simp] theorem engineResumes_free (s : State) : (engineResumes s).free = s.free := by
  unfold engineResumes; (repeat' split) <;> simp
@[simp] theorem engineResumes_pending (s : State) : (engineResumes s).pending = s.pending := by
  unfold engineResumes; (repeat' split) <;> simp

@[simp] theorem warningNegates_mem (s : State) :
    (warningNegates s).mem = s.mem := by simp [warningNegates]
@[simp] theorem warningNegates_host (s : State) :
    (warningNegates s).host = s.host := by simp [warningNegates]
@[simp] theorem warningNegates_decoder (s : State) :
    (warningNegates s).decoder = s.decoder := by simp [warningNegates]
@[simp] theorem warningNegates_txn (s : State) :
    (warningNegates s).txn = s.txn := by simp [warningNegates]
@[simp] theorem warningNegates_journal (s : State) :
    (warningNegates s).journal = s.journal := by simp [warningNegates]
@[simp] theorem warningNegates_tracker (s : State) :
    (warningNegates s).tracker = s.tracker := by simp [warningNegates]
@[simp] theorem warningNegates_command (s : State) :
    (warningNegates s).command = s.command := by simp [warningNegates]
@[simp] theorem warningNegates_resetting (s : State) :
    (warningNegates s).resetting = s.resetting := by simp [warningNegates]
@[simp] theorem warningNegates_free (s : State) :
    (warningNegates s).free = s.free := by simp [warningNegates]
@[simp] theorem warningNegates_pending (s : State) :
    (warningNegates s).pending = s.pending := by simp [warningNegates]

@[simp] theorem holdExpires_mem (s : State) : (holdExpires s).mem = s.mem := by
  unfold holdExpires; (repeat' split) <;> simp
@[simp] theorem holdExpires_decoder (s : State) : (holdExpires s).decoder = s.decoder := by
  unfold holdExpires; (repeat' split) <;> simp
@[simp] theorem holdExpires_tracker (s : State) : (holdExpires s).tracker = s.tracker := by
  unfold holdExpires; (repeat' split) <;> simp
@[simp] theorem holdExpires_engine (s : State) : (holdExpires s).engine = s.engine := by
  unfold holdExpires; (repeat' split) <;> simp
@[simp] theorem holdExpires_warning (s : State) : (holdExpires s).warning = s.warning := by
  unfold holdExpires; (repeat' split) <;> simp
@[simp] theorem holdExpires_resetting (s : State) : (holdExpires s).resetting = s.resetting := by
  unfold holdExpires; (repeat' split) <;> simp
@[simp] theorem holdExpires_pending (s : State) : (holdExpires s).pending = s.pending := by
  unfold holdExpires; (repeat' split) <;> simp

@[simp] theorem tickTimer_mem (s : State) (t : HoldTimer) : (tickTimer s t).mem = s.mem := by
  unfold tickTimer; (repeat' split) <;> simp
@[simp] theorem tickTimer_decoder (s : State) (t : HoldTimer) :
    (tickTimer s t).decoder = s.decoder := by
  unfold tickTimer; (repeat' split) <;> simp
@[simp] theorem tickTimer_tracker (s : State) (t : HoldTimer) :
    (tickTimer s t).tracker = s.tracker := by
  unfold tickTimer; (repeat' split) <;> simp
@[simp] theorem tickTimer_engine (s : State) (t : HoldTimer) :
    (tickTimer s t).engine = s.engine := by
  unfold tickTimer; (repeat' split) <;> simp
@[simp] theorem tickTimer_warning (s : State) (t : HoldTimer) :
    (tickTimer s t).warning = s.warning := by
  unfold tickTimer; (repeat' split) <;> simp
@[simp] theorem tickTimer_resetting (s : State) (t : HoldTimer) :
    (tickTimer s t).resetting = s.resetting := by
  unfold tickTimer; (repeat' split) <;> simp
@[simp] theorem tickTimer_pending (s : State) (t : HoldTimer) :
    (tickTimer s t).pending = s.pending := by
  unfold tickTimer; (repeat' split) <;> simp

@[simp] theorem risingEdge_mem (s : State) (code : BitVec 3) : (risingEdge s code).mem = s.mem := by
  unfold risingEdge; (repeat' split) <;> simp
@[simp] theorem risingEdge_decoder (s : State) (code : BitVec 3) :
    (risingEdge s code).decoder = s.decoder := by
  unfold risingEdge; (repeat' split) <;> simp
@[simp] theorem risingEdge_warning (s : State) (code : BitVec 3) :
    (risingEdge s code).warning = s.warning := by
  unfold risingEdge; (repeat' split) <;> simp
@[simp] theorem risingEdge_resetting (s : State) (code : BitVec 3) :
    (risingEdge s code).resetting = s.resetting := by
  unfold risingEdge; (repeat' split) <;> simp
@[simp] theorem risingEdge_pending (s : State) (code : BitVec 3) :
    (risingEdge s code).pending = s.pending := by
  unfold risingEdge; (repeat' split) <;> simp

/-- What a level seen on CSTRB brings about (R123): the rising edge's effect, or the level kept. -/
theorem seeStrobe_cases (s : State) (high : Bool) (edge : State) :
    (high = true ∧ s.command.strobe = false ∧ seeStrobe s high edge = edge) ∨
    ((high = false ∨ s.command.strobe = true) ∧
      seeStrobe s high edge = s.setCommand { s.command with strobe := high }) := by
  unfold seeStrobe
  cases high <;> cases s.command.strobe <;> simp
@[simp] theorem seeStrobe_low (s : State) (edge : State) :
    seeStrobe s false edge = s.setCommand { s.command with strobe := false } := by simp [seeStrobe]
theorem seeStrobe_edge (s : State) (edge : State) (h : s.command.strobe = false) :
    seeStrobe s true edge = edge := by simp [seeStrobe, h]
theorem seeStrobe_stays (s : State) (high : Bool) (edge : State) (h : s.command.strobe = true) :
    seeStrobe s high edge = s.setCommand { s.command with strobe := high } := by simp [seeStrobe, h]

@[simp] theorem waitingBegins_mem (s : State) : (waitingBegins s).mem = s.mem := by
  unfold waitingBegins; (repeat' split) <;> simp
@[simp] theorem waitingBegins_decoder (s : State) : (waitingBegins s).decoder = s.decoder := by
  unfold waitingBegins; (repeat' split) <;> simp
@[simp] theorem waitingBegins_warning (s : State) : (waitingBegins s).warning = s.warning := by
  unfold waitingBegins; (repeat' split) <;> simp
@[simp] theorem waitingBegins_resetting (s : State) :
    (waitingBegins s).resetting = s.resetting := by
  unfold waitingBegins; (repeat' split) <;> simp
@[simp] theorem waitingBegins_pending (s : State) : (waitingBegins s).pending = s.pending := by
  unfold waitingBegins; (repeat' split) <;> simp

@[simp] theorem giveCommand_mem (s : State) (cmd : Command) : (giveCommand s cmd).mem = s.mem := by
  unfold giveCommand; (repeat' split) <;> simp
@[simp] theorem giveCommand_decoder (s : State) (cmd : Command) :
    (giveCommand s cmd).decoder = s.decoder := by
  unfold giveCommand; (repeat' split) <;> simp
@[simp] theorem giveCommand_warning (s : State) (cmd : Command) :
    (giveCommand s cmd).warning = s.warning := by
  unfold giveCommand; (repeat' split) <;> simp
@[simp] theorem giveCommand_resetting (s : State) (cmd : Command) :
    (giveCommand s cmd).resetting = s.resetting := by
  unfold giveCommand; (repeat' split) <;> simp
@[simp] theorem giveCommand_pending (s : State) (cmd : Command) :
    (giveCommand s cmd).pending = s.pending := by
  unfold giveCommand; (repeat' split) <;> simp

end Sys2Proof.Machine
end

