-- ==== Sys2Proof/WellFormed.lean ====
section
/-! DEFINITION. Well-formedness of a command. The operands are lines of the part (HA19 to HA0, HD7 to
HD0, CCODE2 to CCODE0, MSZ2 to MSZ0, PWARN#, CSTRB), typed at their widths, and the manual gives every
level of every line a meaning: every address is classified (R63), every value of the code lines names
a command (Section 7.1), and the three strap values that name no size are read as 1024 KiB (R120). So
every term of `Instr` is well formed and there is no check for a term to fail. -/

namespace Sys2Proof

/-- Every command is well formed: no operand value is illegal (R63, R120, Section 7.1). -/
def wellFormed : Instr → Bool
  | .resetAssert => true
  | .resetEnd _ _ _ => true
  | .powerWarningAssert => true
  | .powerWarningNegate => true
  | .hostRead _ => true
  | .hostWrite _ _ => true
  | .hostCycleRelease => true
  | .holdExpired => true
  | .strobeTaken _ => true
  | .strobeIgnored => true
  | .commandExecutionBegin => true
  | .acknowledge => true
  | .beginFrame => true
  | .commit => true
  | .abort => true
  | .unwind => true
  | .setup => true
  | .adopt => true
  | .discard => true
  | .memoryCycleComplete => true
  | .controlSequenceStart => true
  | .appendComplete => true
  | .restoreRecordRead => true
  | .restoreStepComplete => true
  | .voidMarkWritten => true
  | .headerSlotsRead => true
  | .epochAdvanceComplete => true
  | .configSlotReadComplete => true
  | .configSlotWriteComplete => true
  | .scanEnd => true
  | .startupEnd => true
  | .statusUpdateComplete => true

end Sys2Proof
end

