-- ==== Sys2Proof/Tests/Slice0.lean ====
section
/-! SUPPORT. Tests: worked values of the manual, one step of each row on a small state, and for each statement a
state that meets its hypotheses. -/

-- One declaration at a time: the package as one text then needs few threads.
set_option Elab.async false

open Sys2Proof Sys2Proof.Machine

namespace Sys2Proof.Machine

/-! ### Small states -/

/-- A configuration for 128 KiB: 16-byte granules, a journal of 4 KiB, an OPEN, a FRAMED and a FROZEN window. -/
def sample : Configuration :=
  { granule := 16, clock := 24, holdLimit := 2000, yieldLimit := 4, journalBase := 120, journalLength := 4,
    windows := [⟨0, 1024, .openMode⟩, ⟨2048, 256, .framed⟩, ⟨4096, 128, .frozen⟩], serial := 0x21 }

/-- Idle in READY at depth 0 under that configuration, epoch 1 in slot A, nothing appended. -/
def ready : State :=
  { State.reset with
    decoder := { control := some 0x1FE00, map := some (configMap sample) }
    txn := { State.reset.txn with op := .ready }
    journal := { State.reset.journal with
      capacity := 157, epoch := 1, slot := some .a, geometry := some (configGeometry sample), link := 1 }
    port := { State.reset.port with strap := 128, yieldLimit := 4 }
    command := { State.reset.command with busy := false }
    config := { State.reset.config with loaded := some sample }
    resetting := false }

/-- The state a row leaves. -/
def after (c : Instr) (s : State) : State :=
  match exec c s with
  | .next t => t
  | _ => s

/-- Another operating state. -/
def State.inState (s : State) (op : OpState) : State := s.setTxn { s.txn with op := op }

/-- Frames are open. -/
def State.opened (s : State) (fs : List Frame) : State := s.setTxn { s.txn with frames := fs }

/-- Frame 1 open from position 0. -/
def frame1 : Frame := { start := 0, short := false, spill := false, opening := 7 }

/-- Frame 2 open from position 1. -/
def frame2 : Frame := { start := 1, short := true, spill := false, opening := 8 }

/-- A command waits in flight under number 9. -/
def State.waiting (s : State) (cmd : Command) : State :=
  (s.setCommand { s.command with busy := true, inFlight := some (cmd, 9) }).setTxn { s.txn with stage := .waiting }

/-- A command is in execution under number 9. -/
def State.executing (s : State) (cmd : Command) : State :=
  (s.setCommand { s.command with busy := true, inFlight := some (cmd, 9) }).setTxn
    { s.txn with stage := .executing }

/-- A memory cycle is in flight. -/
def State.flight (s : State) (who : Claimant) (addr : Addr) (isWrite : Bool) (data : Byte) : State :=
  s.setPort { s.port with
    inFlight := some { claimant := who, addr := addr, isWrite := isWrite, data := data } }

/-- A sequence is in progress with some of its cycles done. -/
def State.doing (s : State) (k : Sequence) (done : Nat) : State :=
  s.setControl { s.control with current := some k, done := done }

/-- A restore run is at a position, with reads and writes of its step done. -/
def State.restoring (s : State) (target : Target) (p stop reads writes : Nat) : State :=
  s.setEngine { s.engine with
    run := .running, cursor := some p, stop := stop, target := target, reads := reads, writes := writes }

/-- A write to the OPEN window's granule 0 is held or passes. -/
def State.holding (s : State) (cause : Option HoldCause) : State :=
  s.setHost { s.host with
    cycle := some { addr := 0x00005, isWrite := true, data := 0xAB, cls := .window .openMode 0 0, cause := cause }
    hold := some { count := 0, phase := 0, limit := 2000, clock := 24 } }

/-- An append of that write at position 0 in frame 1. -/
def State.appending (s : State) (progress : Nat) (abandon : Option AbandonCause) : State :=
  (s.holding (some .append)).setJournal { s.journal with
    payload := zeros 16
    append := some { addr := 0x00005, data := 0xAB, depth := 1, granule := 0, index := 0,
                     progress := progress, abandon := abandon } }

/-! ### Worked values of the manual -/

/-- R187: the check values of the digits 1 to 9, from 0xFFFF and from 0x0000. -/
theorem test_crc_digits :
    crc 0xFFFF [0x31, 0x32, 0x33, 0x34, 0x35, 0x36, 0x37, 0x38, 0x39] = 0x29B1 ∧
    crc 0x0000 [0x31, 0x32, 0x33, 0x34, 0x35, 0x36, 0x37, 0x38, 0x39] = 0x31C3 := by decide +kernel

/-- Table 1-3: the seed of an epoch and the link of position 0. -/
theorem test_epoch_seed : epochSeed 0x00010002 = 0x0003 ∧ epochLow 0x00010002 = 0x0002 := by decide

/-- R10: the successor of the largest epoch is 1. -/
theorem test_epoch_wraps : epochSucc 0xFFFFFFFF = 1 ∧ epochSucc 1 = 2 := by decide

/-- R2: the capacity of a 4 KiB journal at G = 16. -/
theorem test_capacity : capacityOf (configGeometry sample) = 157 := by decide

/-- R121: the control area of 128 KiB. -/
theorem test_control_base : controlBase 128 = 0x1FE00 := by decide

/-- R63 on the sample: OPEN, FRAMED, FROZEN, journal, control (staged slot and beyond), and unguarded. -/
theorem test_classes :
    classify ready 0x00005 = .window .openMode 0 0 ∧ classify ready 0x08000 = .window .framed 2048 1 ∧
    classify ready 0x10000 = .window .frozen 4096 2 ∧ classify ready 0x1E000 = .journal ∧
    classify ready 0x1FE3F = .control true ∧ classify ready 0x1FE40 = .control false ∧
    classify ready 0x20000 = .unguarded ∧ classify ready 0x1DFFF = .unguarded := by decide

/-! ### Well-formedness and the decoder -/

/-- No operand value is illegal, so no term is ill formed: the boundary values of each operand pass. -/
theorem test_wellFormed :
    wellFormed (.resetEnd 7 false true) = true ∧ wellFormed (.hostRead 0xFFFFF) = true ∧
    wellFormed (.hostWrite 0xFFFFF 0xFF) = true ∧ wellFormed (.strobeTaken ⟨7, true⟩) = true := by decide

/-- The table gives no row bits, so no word spells a command. -/
theorem test_no_word : decodeTableWord 8 0 = none ∧ decodeTableWord 16 0xFFFF = none := by decide

/-! ### One step of each row -/

/-- Table 10-1: after a reset CBUSY is high and RDY low. -/
theorem test_resetAssert : (after .resetAssert ready).cbusy = true ∧ (after .resetAssert ready).rdy = false := by
  decide +kernel

/-- R120, R172: MSZ 5 is 1024 KiB, and the first read is of the primary slot's first byte. -/
theorem test_resetEnd :
    (after (.resetEnd 5 true false) State.reset).port.strap = 1024 ∧
    (after (.resetEnd 0 true false) State.reset).ma = some 0x0FE40 := by decide +kernel

/-- R183: the assertion is raised as POWER_WARNING, with no argument. -/
theorem test_powerWarningAssert : (after .powerWarningAssert ready).status.queue =
    [{ kind := .powerWarning, detail := .none, argument := none, repeats := 1 }] := by decide +kernel

/-- R103: a suspended run resumes at a negation. -/
theorem test_powerWarningNegate :
    (after .powerWarningNegate (((ready.inState .aborting).restoring (.depth 1) 0 0 3 0).setWarning true
      |> fun s => s.setEngine { s.engine with run := .suspended })).engine.run = .running := by decide +kernel

/-- R67: a read that finds the port free is granted at once; R79: in LOADING it is faulted. -/
theorem test_hostRead :
    (after (.hostRead 0x00005) ready).ma = some 0x00005 ∧
    (after (.hostRead 0x00005) (ready.inState (.startup .loading))).status.startFaults = 1 := by decide +kernel

/-- R73: a write to a FRAMED window at depth 0 is refused with NO_FRAME and its address. -/
theorem test_hostWrite_noFrame : (after (.hostWrite 0x08010 1) ready).status.queue =
    [{ kind := .writeRefused, detail := .refusal .noFrame, argument := some 0x08010, repeats := 1 }] := by
  decide +kernel

/-- R16, R17: a first write in a frame reads its granule first. -/
theorem test_hostWrite_append :
    (after (.hostWrite 0x00025 1) (ready.opened [frame1])).ma = some 0x00020 ∧
    (after (.hostWrite 0x00025 1) (ready.opened [frame1])).moe = true := by decide +kernel

/-- R68: the host's release negates HFAULT. -/
theorem test_hostCycleRelease :
    (after .hostCycleRelease (ready.setHost { ready.host with hfault := true })).hfault = false := by
  decide +kernel

/-- R85: a cycle held in COMMITTING expires with a fault and is counted. -/
theorem test_holdExpired :
    (after .holdExpired ((ready.inState .committing).holding (some .commit))).hfault = true ∧
    (after .holdExpired ((ready.inState .committing).holding (some .commit))).status.expired = 1 := by
  decide +kernel

/-- R124, R28: the strobe of code 1 opens a frame under sequence number 1. -/
theorem test_strobeTaken : (after (.strobeTaken ⟨1, true⟩) ready).txn.frames =
    [{ start := 0, short := false, spill := false, opening := 1 }] := by decide +kernel

/-- R125: an ignored strobe sets the overrun flag. -/
theorem test_strobeIgnored : (after .strobeIgnored (ready.executing .commit)).command.overrun = true := by
  decide +kernel

/-- R123: a level already high when the reset ends is no rising edge, and after a fall the next rise is one. -/
theorem test_cstrb_level :
    let held := ready.setCommand { ready.command with strobe := true }
    (after (.strobeTaken ⟨1, true⟩) held).command.inFlight = none ∧
    (after (.strobeTaken ⟨1, true⟩) (after (.strobeTaken ⟨1, false⟩) held)).command.seq = 1 := by decide +kernel

/-- R127: a command that waited begins. -/
theorem test_commandExecutionBegin : (after .commandExecutionBegin (ready.waiting .begin)).depth = 1 := by
  decide +kernel

/-- R130: the detail of an ACKNOWLEDGE of two entries is 1. -/
theorem test_acknowledge :
    (after .acknowledge ((ready.waiting .acknowledge).setStatus { ready.status with queue :=
      [⟨.journalFull, .none, some 5, 1⟩, ⟨.powerWarning, .none, none, 2⟩] })).txn.stage =
    .ended { command := .acknowledge, seq := 9, result := .done, detail := .number 1, depth := 0, epoch := 1,
             n := 0 } := by decide +kernel

/-- R29: a BEGIN at depth 8 is refused. -/
theorem test_begin_depth8 :
    (after .beginFrame ((ready.opened (List.replicate 8 frame1)).waiting .begin)).depth = 8 := by decide +kernel

/-- R30: an inner COMMIT carries the short flag down. -/
theorem test_commit : (after .commit ((ready.opened [frame2, frame1]).waiting .commit)).txn.frames =
    [{ frame1 with short := true }] := by decide +kernel

/-- R35: an ABORT at N = 3 of a frame that starts at 1 restores from position 2 to 1. -/
theorem test_abort :
    (after .abort (((ready.opened [frame2, frame1]).waiting .abort).setJournal
      { ready.journal with n := 3 })).engine.cursor = some 2 := by decide +kernel

/-- R40: an UNWIND with nothing appended asks for the header of epoch 2 in slot B. -/
theorem test_unwind : (after .unwind ((ready.opened [frame1]).waiting .unwind)).control.current =
    some (.headerWrite .b 2 (configGeometry sample)) := by decide +kernel

/-- R158: SETUP from READY records its origin. -/
theorem test_setup : (after .setup (ready.waiting .setup)).config.origin = some .ready := by decide +kernel

/-- R161: ADOPT reads the staged slot from its first byte. -/
theorem test_adopt : (after .adopt ((ready.inState .setup).waiting .adopt)).ma = some 0x1FE00 := by decide +kernel

/-- R42: DISCARD leaves FAULTED only at the end of the advance. -/
theorem test_discard : (after .discard ((ready.inState .faulted).waiting .discard)).txn.op = .faulted := by
  decide +kernel

/-- R67: the byte of a passing write is in memory when its cycle ends. -/
theorem test_memoryCycleComplete :
    (after .memoryCycleComplete ((ready.holding none).flight .host 0x00005 true 0xAB)).mem = [(5, 0xAB)] := by
  decide +kernel

/-- R114: the waiting scan begins. -/
theorem test_controlSequenceStart :
    (after .controlSequenceStart (ready.setControl { ready.control with waiting := [.scan] })).control.current
      = some .scan := by decide +kernel

/-- R18: the append advances N and the tracker takes its entry. -/
theorem test_appendComplete :
    (after .appendComplete (((ready.opened [frame1]).appending 42 none).flight .host 0x00005 true 0xAB)).journal.n
      = 1 ∧
    (after .appendComplete (((ready.opened [frame1]).appending 42 none).flight .host 0x00005 true 0xAB)).tracker
      = [{ granule := 0, depth := 1, index := 0, pending := false }] := by decide +kernel

/-- R93, R105: a record whose tag is not RECORD stops the engine. -/
theorem test_restoreRecordRead :
    (after .restoreRecordRead (((ready.inState .aborting).restoring (.depth 1) 0 0 25 0).flight .engine 0x1E019
      false 0)).engine.reason = some .tag := by decide +kernel

/-- R96: a step above the stopping position moves the cursor down by one. -/
theorem test_restoreStepComplete :
    (after .restoreStepComplete (((ready.inState .aborting).restoring (.depth 1) 2 0 26 15).flight .engine 0x0000F
      true 0)).engine.cursor = some 1 := by decide +kernel

/-- R37: the void mark's end returns to READY one frame lower. -/
theorem test_voidMarkWritten :
    (after .voidMarkWritten (((((ready.inState .aborting).opened [frame2, frame1]).executing .abort).doing
      .voidMark 0).flight .control 0x1E01A true 0x5A)).txn.frames = [frame1] := by decide +kernel

/-- R15: with no valid header slot the header of epoch 1 is written to slot A. -/
theorem test_headerSlotsRead :
    (after .headerSlotsRead ((((ready.inState .committing).executing .commit).doing .headerRead 31).flight
      .control 0x1FEDF false 0)).control.current = some (.headerWrite .a 1 (configGeometry sample)) := by
  decide +kernel

/-- R14: the advance sets N to 0 and the link to the low half of the epoch. -/
theorem test_epochAdvanceComplete :
    (after .epochAdvanceComplete ((((((ready.inState .committing).opened [frame1]).executing .commit).doing
      (.headerWrite .b 0x00012345 (configGeometry sample)) 15).flight .control 0x1FEDF true 0).setJournal
      { ready.journal with n := 9 })).journal.link = 0x2345 := by decide +kernel

/-- R172: an invalid primary slot is followed by the secondary. -/
theorem test_configSlotReadComplete :
    (after .configSlotReadComplete ((((ready.inState (.startup .loading)).doing (.configRead .primary) 0).setConfig
      { ready.config with progress := 63, buffer := zeros 63 }).flight .control 0x1FE7F false 0)).control.current
      = some (.configRead .secondary) := by decide +kernel

/-- R165: the primary slot is written after the secondary. -/
theorem test_configSlotWriteComplete :
    (after .configSlotWriteComplete (((((ready.inState .setup).executing .adopt).doing (.configWrite .secondary)
      0).setConfig { ready.config with adopting := true, progress := 63, buffer := zeros 64 }).flight
      .control 0x1FEBF true 0)).control.current = some (.configWrite .primary) := by decide +kernel

/-- R175: a scan that finds no RECORD tag at position 0 finds no records. -/
theorem test_scanEnd :
    (after .scanEnd (((ready.inState (.startup .scanning)).doing .scan 0).flight .control 0x1E000 false 0)).txn.op
      = .startup .closing := by decide +kernel

/-- R180: at the end of the final update RDY is high and CBUSY low. -/
theorem test_startupEnd :
    let s := ((ready.setTxn { ready.txn with op := .startup .closing, endState := some .ready }).doing
      (.update .final) 167).flight .control 0x1FF47 true 0
    (after .startupEnd s).rdy = true ∧ (after .startupEnd s).cbusy = false := by decide +kernel

/-- R128: at the end of a result record CBUSY falls. -/
theorem test_statusUpdateComplete :
    (after .statusUpdateComplete (((ready.executing .begin).doing (.update .command) 199).flight .control 0x1FEFF
      true 0)).cbusy = false := by decide +kernel

/-! ### A state that meets each statement's hypotheses -/

theorem witness_StepRunsTheFront :
    (ready.setPending [.beginFrame]).pending = .beginFrame :: [] := rfl

/-- The clauses of the idle step, at the ends of their ranges. -/
theorem witness_IdleStepCountsTheHold :
    (ready.pending = [] ∧ ready.resetting = false ∧ ready.host.hold = none) ∧
    (∃ s : State, s.pending = [] ∧ s.resetting = false ∧ s.host.hold = some ⟨0, 0, 0, 0⟩) ∧
    (∃ s : State, s.pending = [] ∧ s.resetting = false ∧ s.host.hold = some ⟨0, 22, 2000, 24⟩) ∧
    (∃ s : State, s.pending = [] ∧ s.resetting = false ∧ s.host.hold = some ⟨1998, 23, 2000, 24⟩) ∧
    (∃ s : State, s.pending = [] ∧ s.resetting = false ∧ s.host.hold = some ⟨1999, 23, 2000, 24⟩) :=
  ⟨⟨rfl, rfl, rfl⟩,
    ⟨ready.setHost { ready.host with hold := some ⟨0, 0, 0, 0⟩ }, rfl, rfl, rfl⟩,
    ⟨ready.setHost { ready.host with hold := some ⟨0, 22, 2000, 24⟩ }, rfl, rfl, rfl⟩,
    ⟨ready.setHost { ready.host with hold := some ⟨1998, 23, 2000, 24⟩ }, rfl, rfl, rfl⟩,
    ⟨ready.setHost { ready.host with hold := some ⟨1999, 23, 2000, 24⟩ }, rfl, rfl, rfl⟩⟩

theorem witness_ResetAssertClearsEveryBlock : MemoryLaw (ready.setMem [(0, 1), (0xFFFFF, 255)]) := by
  unfold MemoryLaw; decide +kernel

theorem witness_ResetEndSamplesAndBeginsLoading :
    State.reset.resetting = true ∧ State.reset.port.inFlight = none ∧ State.reset.port.claimHost = false ∧
    State.reset.port.claimControl = false ∧ State.reset.port.claimEngine = false ∧
    State.reset.control.current = none ∧ State.reset.control.waiting = [] := by decide

/-- An idle state, a running engine between cycles, and one with its own cycle in flight; a write that the warning
does not end at once: none, granted, held with COMMIT, and an append whose own cycle is in flight. -/
theorem witness_WarningAssertionKeepsTheWork :
    (ready.resetting = false ∧ ready.warning = false ∧ ready.host.cycle = none ∧ ready.engine.run ≠ .running) ∧
    (let s := ready.restoring .all 0 0 0 0
     s.resetting = false ∧ s.warning = false ∧ s.engine.run = .running ∧ s.inFlightFor .engine = false) ∧
    (let s := (ready.restoring .all 0 0 0 0).flight .engine 0 false 0
     s.resetting = false ∧ s.warning = false ∧ s.inFlightFor .engine = true) ∧
    (∀ s ∈ [(ready.holding none).flight .host 5 true 0xAB, (ready.inState .committing).holding (some .commit),
        (ready.appending 41 none).flight .host 0x1E019 true 0],
      s.resetting = false ∧ s.warning = false ∧ ∃ c, s.host.cycle = some c ∧ c.isWrite = true ∧
        c.cause ≠ some .memory ∧ c.cause ≠ some .abort ∧
        (c.cause = some .append → s.inFlightFor .host = true)) := by
  refine ⟨by decide +kernel, by decide +kernel, by decide +kernel, ?_⟩
  simp only [List.forall_mem_cons]
  exact ⟨⟨rfl, rfl, _, rfl, rfl, by decide, by decide, by decide⟩,
    ⟨rfl, rfl, _, rfl, rfl, by decide, by decide, by decide⟩,
    ⟨rfl, rfl, _, rfl, rfl, by decide, by decide, fun _ => rfl⟩, fun _ h => nomatch h⟩

/-- A write held with each cause the statement names, in READY and in SCANNING, and one whose cycle is granted;
an append with no cycle in flight, and with its last record byte's and its host byte's, with and without a cause
recorded. -/
theorem witness_WarningAndTheHostWrite :
    (∀ cause ∈ [some HoldCause.memory, some .abort, some .commit, none],
      let s := ready.holding cause
      s.resetting = false ∧ s.warning = false ∧ s.txn.op.isStartup = false ∧
        ∃ c, s.host.cycle = some c ∧ c.isWrite = true ∧ c.cause = cause) ∧
    (let s := ready.appending 0 none
     s.resetting = false ∧ s.warning = false ∧ s.txn.op.isStartup = false ∧
       s.journal.append.isSome = true ∧ s.inFlightFor .host = false ∧
       ∃ c, s.host.cycle = some c ∧ c.isWrite = true ∧ c.cause = some .append) ∧
    (∀ x ∈ [(41, none), (41, some AbandonCause.expiry), (42, none)],
      let s := (ready.appending x.1 x.2).flight .host 0 true 0
      s.resetting = false ∧ s.warning = false ∧ s.inFlightFor .host = true ∧
        ∃ c a, s.host.cycle = some c ∧ c.isWrite = true ∧ c.cause = some .append ∧
          s.journal.append = some a ∧ a.progress = x.1 ∧ a.abandon = x.2) ∧
    (let s := (ready.inState (.startup .scanning)).holding (some .memory)
     s.resetting = false ∧ s.warning = false ∧ s.txn.op.isStartup = true ∧
       ∃ c, s.host.cycle = some c ∧ c.isWrite = true ∧ c.cause = some .memory) ∧
    ready.geometry.granule + (ready.geometry.granule + 10) = 42 := by
  refine ⟨?_, ⟨rfl, rfl, rfl, rfl, rfl, _, rfl, rfl, rfl⟩, ?_, ⟨rfl, rfl, rfl, _, rfl, rfl, rfl⟩, rfl⟩
  · intro cause _; exact ⟨rfl, rfl, rfl, _, rfl, rfl, rfl⟩
  · intro x _; exact ⟨rfl, rfl, rfl, _, _, rfl, rfl, rfl, rfl, rfl, rfl⟩

/-- A suspended run and none. For the update: none waited for, one owed, one of the command in flight before and
after its event-area write began, and the start-up final update before and after its live-state record began. -/
theorem witness_WarningNegationResumes :
    (let s := (ready.setWarning true).setEngine { ready.engine with run := .suspended, cursor := some 0 }
     s.resetting = false ∧ s.warning = true ∧ s.engine.run = .suspended ∧ s.engine.cursor.isSome = true) ∧
    (let s := ready.setWarning true
     let begun := { s.status with liveBegun := true, areaBegun := true }
     (∀ t ∈ [s, s.setStatus { s.status with owed := true }, s.executing .commit,
          ((s.executing .commit).doing (.update .command) 64).setStatus begun,
          (s.inState (.startup .closing)).doing (.update .final) 0,
          ((s.inState (.startup .closing)).doing (.update .final) 1).setStatus begun],
        t.resetting = false ∧ t.warning = true ∧ t.engine.run ≠ .suspended ∧ t.port.claimControl = false)) := by
  decide +kernel

/-! #### A state every law holds of -/

/-- In ABORTING at depth 2: the run of the inner frame stands at position 2 above its stopping position 1. -/
def undoing : State :=
  ((((((ready.inState .aborting).opened [frame2, frame1]).executing .abort).restoring (.depth 2) 2 1 0 0).setJournal
    { ready.journal with n := 3 }).setTracker
      [⟨5, 1, 0, false⟩, ⟨5, 2, 1, true⟩, ⟨6, 2, 2, true⟩]).setPort { ready.port with claimEngine := true }

theorem undoing_resetLaw : ResetLaw undoing := by intro h; exact absurd h (by decide)

theorem undoing_workLaw : WorkLaw undoing where
  oneWork := by decide +kernel
  belongs := by decide +kernel
  runAlone := by decide +kernel
  runWhere := by decide +kernel
  inExecution := by decide +kernel
  stageInFlight := by decide +kernel
  flightIsBusy := by decide +kernel
  startupQuiet := by decide +kernel
  updateEnded := by intro h; exact absurd h (by decide +kernel)
  oneUpdate := by decide +kernel
  endDecided := by decide +kernel
  engineCycle := by decide +kernel
  engineOnce := by decide +kernel
  controlCycle := by decide +kernel
  controlOnce := by decide +kernel
  stagedRead := by decide +kernel
  appendReady := by decide +kernel

theorem undoing_engineLaw : EngineLaw undoing where
  idleCursor := by decide +kernel
  runCursor := fun _ => ⟨2, rfl, by decide +kernel, by decide +kernel⟩
  faultStopped := by decide +kernel
  endStopped := by decide +kernel
  stoppedOnly := by decide +kernel

theorem undoing_frameLaw : FrameLaw undoing where
  atMostEight := by decide +kernel
  ordered := by decide +kernel
  belowN := by decide +kernel
  frameless := by decide +kernel
  committing := by decide +kernel
  innerAbort := fun _ _ => ⟨rfl, fun f h => by cases h; rfl⟩
  voidMark := by intro h; exact absurd h (by decide +kernel)
  appendAtN := by intro a h; cases h

theorem undoing_trackerLaw : TrackerLaw undoing where
  atMost64 := by decide +kernel
  distinct := by decide +kernel
  depths := by decide +kernel
  indexes := by decide +kernel
  missed := by intro a h; cases h
  restored := fun _ _ e he _ p hp => by
    cases hp
    revert e
    decide +kernel

/-- The laws hold of it, and it steps. -/
theorem witness_EveryStepKeepsTheTrackerWithinTheFrames :
    ResetLaw undoing ∧ WorkLaw undoing ∧ EngineLaw undoing ∧ FrameLaw undoing ∧ TrackerLaw undoing ∧
    ∃ t, step undoing = .next t :=
  ⟨undoing_resetLaw, undoing_workLaw, undoing_engineLaw, undoing_frameLaw, undoing_trackerLaw, _, rfl⟩

theorem witness_EveryStepKeepsTheFrameStackOrdered :
    ResetLaw undoing ∧ WorkLaw undoing ∧ EngineLaw undoing ∧ FrameLaw undoing ∧ ∃ t, step undoing = .next t :=
  ⟨undoing_resetLaw, undoing_workLaw, undoing_engineLaw, undoing_frameLaw, _, rfl⟩

theorem witness_EveryStepKeepsOnePieceOfWork :
    ResetLaw undoing ∧ WorkLaw undoing ∧ EngineLaw undoing ∧ ∃ t, step undoing = .next t :=
  ⟨undoing_resetLaw, undoing_workLaw, undoing_engineLaw, _, rfl⟩

/-- The part right after a reset has ended, with the first read of the primary slot in flight. -/
def starting : State := (after (.resetEnd 1 true false) State.reset).setPending [.memoryCycleComplete]

theorem starting_workLaw : WorkLaw starting := by
  constructor
  case updateEnded => intro h; exact absurd h (by decide +kernel)
  all_goals decide +kernel

theorem starting_engineLaw : EngineLaw starting := by
  constructor
  case runCursor => intro h; exact absurd h (by decide +kernel)
  all_goals decide +kernel

/-- A host port with no cycle meets its law. -/
theorem hostLaw_of_quiet (s : State) (h : s.host = State.reset.host) (ha : s.journal.append = none)
    (hc : s.port.claimHost = false) (hf : s.inFlightFor .host = false) : HostLaw s := by
  constructor <;> simp [h, ha, hc, hf, State.reset]

theorem starting_sequenceLaw : SequenceLaw starting := by
  constructor
  case slot => exact fun _ _ => by decide +kernel
  case claimed => decide +kernel
  case headerRead => decide +kernel
  case scan => intro h; exact absurd h (by decide +kernel)
  all_goals
    intro kind h
    have start : starting.control.current = some (.configRead .primary) := by decide +kernel
    simp [start] at h

/-- The laws of the host port, the memory port and the sequence in progress hold there together with the others,
and it steps. -/
theorem witness_PortLaw_SequenceLaw :
    HostLaw starting ∧ ResetLaw starting ∧ WorkLaw starting ∧ EngineLaw starting ∧ PortLaw starting ∧
    SequenceLaw starting ∧ ∃ t, step starting = .next t := by
  refine ⟨hostLaw_of_quiet _ (by decide +kernel) (by decide +kernel) (by decide +kernel) (by decide +kernel), ?_,
    starting_workLaw, starting_engineLaw, ?_, starting_sequenceLaw, _, rfl⟩
  · unfold ResetLaw; intro h; exact absurd h (by decide +kernel)
  · unfold PortLaw; decide +kernel

/-- A full queue, counters at their ends, and a reset in force, each with a step. -/
theorem witness_EveryStepKeepsTheBlockLaws :
    MemoryLaw (ready.setMem [(0, 1)]) ∧
    QueueLaw (ready.setStatus { ready.status with dropped := 255, queue :=
      [⟨.writeRefused, .none, none, 255⟩, ⟨.journalFull, .none, none, 1⟩, ⟨.holdExpired, .none, none, 1⟩,
        ⟨.powerWarning, .none, none, 1⟩] }) ∧
    CounterLaw (ready.setStatus { ready.status with refused := 65535, expired := 65535, startFaults := 65535 }) ∧
    ResetLaw State.reset ∧ ∃ t, step State.reset = .next t := by
  refine ⟨by unfold MemoryLaw; decide +kernel, ?_, ?_, fun _ => by decide +kernel, _, rfl⟩
  · constructor <;> decide +kernel
  · constructor <;> decide +kernel

/-- An append in flight with its claim standing. -/
theorem witness_EveryStepKeepsTheHostCycleSound :
    let s := ((ready.opened [frame1]).appending 0 none).claimHost
    HostLaw s ∧ ∃ t, step s = .next t := by
  refine ⟨?_, _, rfl⟩
  constructor
  · intro c h; cases h; decide +kernel
  · intro c h; cases h; decide +kernel
  · intro c h; cases h; decide +kernel
  · intro c h; cases h; decide +kernel
  · intro c h; cases h; exact fun _ => ⟨rfl, _, rfl, rfl, rfl⟩
  · exact fun _ => ⟨_, rfl, rfl⟩
  · exact fun _ => ⟨rfl, Or.inl rfl⟩
  · intro h; exact absurd h (by decide +kernel)
  · exact fun _ _ _ => rfl
  · exact fun _ => rfl
  · intro h; exact absurd h (by decide +kernel)

theorem witness_MemoryChangesOnlyAtTheWriteInFlight :
    let s := (ready.holding none).flight .host 0x00005 true 0xAB
    MemoryLaw s ∧ exec .memoryCycleComplete s = .next (after .memoryCycleComplete s) ∧
    (after .memoryCycleComplete s).mem.read 5 ≠ s.mem.read 5 := by
  refine ⟨rfl, rfl, by decide +kernel⟩

/-- For each row a state with its cycle in flight, and for each a state with none. -/
theorem witness_CycleRowsAreTheEndOfTheCycle :
    CycleNamed .appendComplete ((ready.appending 42 none).flight .host 5 true 0xAB) ∧
    CycleNamed .restoreRecordRead ((ready.restoring .all 0 0 25 0).flight .engine 0 false 0) ∧
    CycleNamed .restoreStepComplete ((ready.restoring .all 0 0 26 15).flight .engine 0 true 0) ∧
    CycleNamed .voidMarkWritten ((ready.doing .voidMark 0).flight .control 0 true 0x5A) ∧
    CycleNamed .headerSlotsRead ((ready.doing .headerRead 31).flight .control 0 false 0) ∧
    CycleNamed .epochAdvanceComplete
      ((ready.doing (.headerWrite .b 2 (configGeometry sample)) 15).flight .control 0 true 0) ∧
    (∀ slot, CycleNamed .configSlotReadComplete (((ready.doing (.configRead slot) 0).setConfig
      { ready.config with progress := 63 }).flight .control 0 false 0)) ∧
    (∀ slot, CycleNamed .configSlotWriteComplete (((ready.doing (.configWrite slot) 0).setConfig
      { ready.config with progress := 63 }).flight .control 0 true 0)) ∧
    CycleNamed .scanEnd ((ready.doing .scan 0).flight .control 0 false 0) ∧
    CycleNamed .startupEnd ((ready.doing (.update .final) 167).flight .control 0 true 0) ∧
    CycleNamed .statusUpdateComplete ((ready.doing (.update .command) 199).flight .control 0 true 0) ∧
    (∀ c, ¬CycleNamed c ready) := by
  refine ⟨⟨rfl, _, rfl, rfl, _, rfl, rfl⟩, ⟨rfl, _, rfl, rfl, rfl⟩, ⟨rfl, _, rfl, rfl, Nat.le_refl 26, rfl⟩,
    ⟨rfl, _, rfl, rfl, rfl⟩, ⟨rfl, _, rfl, rfl, rfl, rfl⟩, ⟨rfl, _, rfl, rfl, ⟨_, _, _, rfl⟩, rfl⟩,
    fun _ => ⟨rfl, _, rfl, rfl, ⟨_, rfl⟩, rfl⟩, fun _ => ⟨rfl, _, rfl, rfl, ⟨_, rfl⟩, rfl⟩,
    ⟨rfl, _, rfl, rfl, rfl, Or.inl (Or.inl ⟨rfl, by decide⟩)⟩, ⟨rfl, _, rfl, rfl, rfl, rfl⟩,
    ⟨rfl, _, rfl, rfl, rfl, rfl⟩, ?_⟩
  rintro c ⟨_, m, h, _⟩
  exact nomatch h

/-! #### Host cycles -/

/-- The host path is next at a free port, also beside a waiting claimant below its limit, and not at a busy port or
beside one at its limit. -/
theorem witness_HostNext :
    ready.HostNext ∧
    (ready.setPort { ready.port with claimControl := true, yieldControl := 3, yieldLimit := 4 }).HostNext ∧
    ¬(ready.flight .control 0 false 0).HostNext ∧
    ¬(ready.setPort { ready.port with claimControl := true, yieldControl := 4, yieldLimit := 4 }).HostNext := by
  unfold State.HostNext; decide +kernel

/-- A read in READY, and reads outside the windows in ABORTING and SCANNING. -/
theorem witness_HostReadPasses :
    (HostFree ready ∧ ready.txn.op ≠ .aborting ∧ ready.txn.op.isStartup = false) ∧
    (∀ op ∈ [OpState.aborting, .startup .scanning], HostFree (ready.inState op) ∧
      (ready.inState op).txn.op ≠ .startup .loading ∧
      ∀ mode g i, classify (ready.inState op) 0x20000 ≠ .window mode g i) := by
  refine ⟨⟨⟨rfl, rfl, rfl⟩, by decide, by decide⟩, ?_⟩
  intro op h
  refine ⟨⟨rfl, rfl, rfl⟩, ?_, ?_⟩
  · intro h'; change op = _ at h'; subst h'; revert h; decide
  · intro mode g i h'
    have : classify (ready.inState op) 0x20000 = .unguarded := by
      change classify ready 0x20000 = .unguarded; decide
    rw [this] at h'; cases h'

/-- A read of granule 0 in ABORTING: a spilled frame, a pending granule, and neither. -/
theorem witness_HostReadInAborting :
    let s := (ready.inState .aborting).opened [frame1]
    HostFree s ∧ s.txn.op = .aborting ∧ classify s 0x00005 = .window .openMode 0 0 ∧
    HostFree (s.opened [{ frame1 with spill := true }]) ∧
    HostFree (s.setTracker [⟨0, 1, 0, true⟩]) := by
  exact ⟨⟨rfl, rfl, rfl⟩, rfl, by decide +kernel, ⟨rfl, rfl, rfl⟩, ⟨rfl, rfl, rfl⟩⟩

/-- LOADING; a window, a guarded address and the warning in SCANNING. -/
theorem witness_StartupFaultsCycles :
    let s := ready.inState (.startup .scanning)
    (HostFree (ready.inState (.startup .loading)) ∧
      (ready.inState (.startup .loading)).txn.op = .startup .loading) ∧
    (HostFree s ∧ s.txn.op = .startup .scanning ∧ classify s 0x00005 = .window .openMode 0 0) ∧
    classify s 0x1E000 ≠ .unguarded ∧ HostFree (s.setWarning true) ∧ (s.setWarning true).warning = true := by
  exact ⟨⟨⟨rfl, rfl, rfl⟩, rfl⟩, ⟨⟨rfl, rfl, rfl⟩, rfl, by decide +kernel⟩, by decide +kernel, ⟨rfl, rfl, rfl⟩, rfl⟩

/-- The last unguarded address below the journal, in READY, under the warning, and in LOADING. -/
theorem witness_UnguardedWritePasses :
    HostFree ready ∧ classify ready 0x1DFFF = .unguarded ∧ ready.warning = false ∧
    HostFree (ready.setWarning true) ∧ (ready.setWarning true).txn.op.isStartup = false ∧
    HostFree (ready.inState (.startup .loading)) ∧
    classify (ready.inState (.startup .loading)) 0x1DFFF = .unguarded := by
  exact ⟨⟨rfl, rfl, rfl⟩, by decide +kernel, rfl, ⟨rfl, rfl, rfl⟩, rfl, ⟨rfl, rfl, rfl⟩, by decide +kernel⟩

/-- The last byte of the staged slot in SETUP, with and without an ADOPT, and in READY; the byte after it; the
first byte of the journal region; the last byte of the FROZEN window. -/
theorem witness_GuardedWriteIsRefused :
    let s := ready.inState .setup
    HostFree ready ∧ ready.txn.op.isStartup = false ∧ ready.warning = false ∧
    (HostFree s ∧ classify s 0x1FE3F = .control true ∧ s.txn.op = .setup ∧ s.config.adopting = false) ∧
    (s.setConfig { s.config with adopting := true }).config.adopting = true ∧
    classify ready 0x1FE40 = .control false ∧ classify ready 0x1E000 = .journal ∧
    classify ready 0x107FF = .window .frozen 4223 2 := by
  exact ⟨⟨rfl, rfl, rfl⟩, rfl, rfl, ⟨⟨rfl, rfl, rfl⟩, by decide +kernel, rfl, rfl⟩, rfl, by decide +kernel,
    by decide +kernel, by decide +kernel⟩

/-- The first byte of the OPEN and of the FRAMED window, in each state the statement names. -/
theorem witness_JournaledWriteOutsideAFrame :
    (∀ op ∈ [OpState.ready, .setup, .unconfigured, .committing, .aborting, .faulted],
      HostFree (ready.inState op) ∧ (ready.inState op).warning = false ∧ (ready.inState op).txn.op = op ∧
      (ready.inState op).depth = 0) ∧
    classify ready 0x00000 = .window .openMode 0 0 ∧ classify ready 0x08000 = .window .framed 2048 1 := by
  exact ⟨fun _ _ => ⟨⟨rfl, rfl, rfl⟩, rfl, rfl, rfl⟩, by decide +kernel, by decide +kernel⟩

/-- A hit, a miss at the last free position, and a miss with the journal full. -/
theorem witness_JournaledWriteInAFrame :
    let s := ready.opened [frame1]
    (HostFree s ∧ s.warning = false ∧ s.txn.op = .ready ∧ 1 ≤ s.depth ∧
      classify s 0x00005 = .window .openMode 0 0) ∧
    (∃ e ∈ (s.setTracker [⟨0, 1, 0, false⟩]).tracker, e.granule = 0 ∧ e.depth = s.depth) ∧
    (s.setJournal { s.journal with n := 156 }).journal.n < s.journal.capacity ∧
    ¬(s.setJournal { s.journal with n := 157 }).journal.n < s.journal.capacity := by
  exact ⟨⟨⟨rfl, rfl, rfl⟩, rfl, rfl, by decide +kernel, by decide +kernel⟩,
    ⟨⟨0, 1, 0, false⟩, by decide +kernel, rfl, rfl⟩, by decide +kernel, by decide +kernel⟩

theorem witness_PowerWarningRefusesEveryWrite :
    HostFree (ready.setWarning true) ∧ (ready.setWarning true).txn.op.isStartup = false ∧
    (ready.setWarning true).warning = true := ⟨⟨rfl, rfl, rfl⟩, rfl, rfl⟩

/-- A write held in COMMITTING one count before its limit, one held with cause MEMORY, and one in SCANNING. -/
theorem witness_HoldExpiryEndsTheCycle :
    (∀ op ∈ [OpState.committing, .startup .scanning], ∀ x ∈ [HoldCause.commit, .memory],
      let s := (ready.inState op).holding (some x)
      s.resetting = false ∧ x ≠ .append ∧
      ∃ c h, s.host.cycle = some c ∧ c.cause = some x ∧ s.host.hold = some h ∧ h.limit ≠ 0 ∧
        h.count < h.limit) ∧
    (OpState.committing.isStartup = false ∧ (OpState.startup .scanning).isStartup = true) ∧
    (⟨1999, 0, 2000, 24⟩ : HoldTimer).count < (⟨1999, 0, 2000, 24⟩ : HoldTimer).limit := by
  refine ⟨?_, by decide, by decide⟩
  intro op _ x hx
  refine ⟨rfl, ?_, _, _, rfl, rfl, rfl, by decide, by decide⟩
  intro h; subst h; revert hx; decide

/-- An append with its host byte granted, with another cycle in flight, and with none; and a passing read and write
in each state, a microsecond before the limit. -/
theorem witness_HoldExpiryOnAnAppend :
    let s := ready.opened [frame1]
    let held := s.appending 42 none
    (held.resetting = false ∧ held.txn.op = .ready ∧
      ∃ c h, held.host.cycle = some c ∧ c.isWrite = true ∧ c.cause = some .append ∧
        held.host.hold = some h ∧ h.limit ≠ 0 ∧ h.count < h.limit) ∧
    (∀ op w, let t := (ready.inState op).setHost { ready.host with
        cycle := some ⟨0x00050, w, 0, .window .openMode 5 0, none⟩, hold := some ⟨1999, 0, 2000, 24⟩ }
      t.resetting = false ∧ t.txn.op = op ∧ ∃ c h, t.host.cycle = some c ∧ c.isWrite = w ∧ c.cause = none ∧
        t.host.hold = some h ∧ h.limit ≠ 0 ∧ h.count < h.limit) ∧
    (∃ a, held.journal.append = some a ∧ (held.flight .host 5 true 0xAB).inFlightFor .host = true ∧
      a.progress = held.geometry.granule + (held.geometry.granule + 10)) ∧
    (∃ a, (s.appending 41 none).journal.append = some a ∧
      a.progress ≠ held.geometry.granule + (held.geometry.granule + 10)) ∧
    held.inFlightFor .host = false := by
  exact ⟨⟨rfl, rfl, _, _, rfl, rfl, rfl, rfl, by decide, by decide⟩,
    fun _ _ => ⟨rfl, rfl, _, _, rfl, rfl, rfl, rfl, by decide, by decide⟩, ⟨_, rfl, rfl, rfl⟩,
    ⟨_, rfl, by decide +kernel⟩, rfl⟩

/-- With and without a staged-slot read that waits, at an idle control unit and at a busy one. -/
theorem witness_PassingHostCycleEnds :
    ∀ w, ∀ k ∈ [[], [Sequence.update .raise]],
      let s := (((ready.holding none).flight .host 0x00005 true 0xAB).setConfig
        { ready.config with readWaits := w }).setControl { ready.control with current := k.head? }
      ∃ c m, CycleDue s .host m ∧ s.journal.append = none ∧ s.host.cycle = some c ∧ m.isWrite = c.isWrite ∧
        s.config.readWaits = w ∧ s.sequences = k := by
  intro w k hk
  refine ⟨_, _, ⟨rfl, rfl, rfl, rfl⟩, rfl, rfl, rfl, rfl, ?_⟩
  simp only [List.mem_cons, List.not_mem_nil, or_false] at hk
  rcases hk with rfl | rfl <;> rfl

/-! #### Appends -/

/-- At G = 16, for an append the last granule read, the first and the last record write, and the host byte; for the
engine its last read and its first write; each sequence of the control unit, with a geometry and with none; and for
an update the last snapshot read and the ends of each run of writes. -/
theorem witness_AppendCyclesInOrder :
    (∀ progress ∈ [15, 16, 41, 42], ∃ a, (ready.appending progress none).journal.append = some a ∧
      a.progress = progress ∧ (ready.appending progress none).journal.geometry = some (configGeometry sample)) ∧
    (∀ reads ∈ [25, 26], let s := ready.restoring .all 3 0 reads 0
      s.engine.cursor = some 3 ∧ s.engine.reads = reads ∧ s.journal.geometry = some (configGeometry sample) ∧
        s.geometry.granule + 10 = 26) ∧
    (∀ k, ∀ g ∈ [none, some (configGeometry sample)],
      let s := (ready.setJournal { ready.journal with geometry := g }).doing k 0
      s.control.current = some k ∧ s.journal.geometry = g) ∧
    (∀ kind, ∀ i ∈ [3, 4, 7, 8, 63, 64, 67, 68, 163, 164, 171, 172],
      let s := (ready.doing (.update kind) i).setStatus { ready.status with snapReads := 4 }
      s.control.current = some (.update kind) ∧ s.control.done = i ∧ s.status.snapReads = 4) :=
  ⟨fun _ _ => ⟨_, rfl, rfl, rfl⟩, fun _ _ => ⟨rfl, rfl, rfl, rfl⟩, fun _ _ _ => ⟨rfl, rfl⟩,
    fun _ _ _ => ⟨rfl, rfl, rfl⟩⟩

/-- The last cycle before the host byte's, with no cause recorded and with each. -/
theorem witness_AppendGoesOnOrIsAbandoned :
    ∀ cause ∈ [none, some AbandonCause.power, some .expiry],
      let s := ((ready.opened [frame1]).appending 41 cause).flight .host 0x1E019 true 0
      ∃ c m a, CycleDue s .host m ∧ s.journal.append = some a ∧ a.abandon = cause ∧
        a.progress ≠ s.geometry.granule + (s.geometry.granule + 10) ∧ s.host.cycle = some c ∧
        c.cause = some .append ∧ c.isWrite = true ∧ s.txn.op = .ready :=
  fun _ _ => ⟨_, _, _, ⟨rfl, rfl, rfl, rfl⟩, rfl, rfl, (by decide : (41 : Nat) ≠ 42), rfl, rfl, rfl, rfl⟩

/-- A tracker with room and a full one. -/
theorem witness_AppendCompletes :
    ∀ k ∈ [63, 64],
      let s := (((ready.opened [frame1]).appending 42 none).flight .host 0x00005 true 0xAB).setTracker
        (List.replicate k ⟨9, 1, 0, false⟩)
      ∃ c m a, CycleDue s .host m ∧ s.journal.append = some a ∧
        a.progress = s.geometry.granule + (s.geometry.granule + 10) ∧
        s.journal.payload.length = s.geometry.granule ∧ s.host.cycle = some c ∧ c.isWrite = true ∧
        s.tracker.length = k := by
  intro k _
  exact ⟨_, _, _, ⟨rfl, rfl, rfl, rfl⟩, rfl, rfl, rfl, rfl, rfl, List.length_replicate⟩

/-! #### The restore engine -/

/-- The bytes of a record of granule 5 at depth 1, for a position, under epoch 1. -/
def recordOf (p : Nat) : List Byte := recordBytes 1 1 5 p 1 (zeros 16)

/-- The last read of the record at position 0 is in flight, its byte at address 0. -/
def atLastRead (op : OpState) (p : Nat) : State :=
  ((((((ready.inState op).executing .abort).restoring (.depth 1) 0 0 25 0).setEngine
    { ready.engine with run := .running, cursor := some 0, target := .depth 1, reads := 25,
                        buffer := (recordOf p).take 25 }).setJournal { ready.journal with n := 1 }).setMem
      (Memory.write [] 0 (byteAt (recordOf p) 25))).flight .engine 0 false 0

/-- No cycle, a write held with COMMIT or ABORT, or a read held with SPILL or PENDING. -/
def held : List (Option (Bool × HoldCause)) :=
  [none, some (true, .commit), some (true, .abort), some (false, .spill), some (false, .pending)]

/-- Such a cycle is in progress at granule 0 of the OPEN window, its timer running. -/
def State.withHeld (s : State) (x : Option (Bool × HoldCause)) : State :=
  s.setHost { s.host with
    cycle := x.map (fun y => { addr := 0x00005, isWrite := y.1, data := 0xAB, cls := .window .openMode 0 0,
                               cause := some y.2 })
    hold := x.map (fun _ => { count := 0, phase := 0, limit := 2000, clock := 24 }) }

/-- With such a choice a state has no cycle to lift a hold of, or one whose hold is to be lifted. -/
def State.Lifts (s : State) (x : Option (Bool × HoldCause)) : Prop :=
  match x with
  | none => s.NoneToLift
  | some _ => ∃ c, HeldToLift s c

theorem lifts_withHeld (s : State) (hf : s.host.hfault = false) (ha : s.journal.append = none)
    (hr : s.config.readWaits = false) (hu : decide (Sequence.update .command ∈ s.sequences) = false) :
    ∀ x ∈ held, (s.withHeld x).Lifts x := by
  have hu := of_decide_eq_false hu
  simp only [held, List.forall_mem_cons, State.Lifts]
  exact ⟨(fun _ _ h => nomatch h), ⟨_, rfl, Or.inl ⟨rfl, Or.inl rfl⟩, rfl, hf, ha, hr, hu⟩,
    ⟨_, rfl, Or.inl ⟨rfl, Or.inr rfl⟩, rfl, hf, ha, hr, hu⟩,
    ⟨_, rfl, Or.inr ⟨rfl, Or.inl rfl⟩, rfl, hf, ha, hr, hu⟩,
    ⟨_, rfl, Or.inr ⟨rfl, Or.inr rfl⟩, rfl, hf, ha, hr, hu⟩, fun _ h => nomatch h⟩

/-- The cases of a lifted hold: a read; a write under the warning; in FAULTED; in READY at depth 0 of each mode; and
at depth 1 with a hit, a miss at the last free position, and a miss with the journal full. -/
theorem witness_HoldLifted :
    let s := ready.opened [frame1]
    (ready.setWarning true).warning = true ∧ (ready.inState .faulted).txn.op = .faulted ∧
    ready.txn.op = .ready ∧ ready.depth = 0 ∧ s.txn.op = .ready ∧ 1 ≤ s.depth ∧
    classify ready 0x00005 = .window .openMode 0 0 ∧ classify ready 0x08000 = .window .framed 2048 1 ∧
    (∃ e ∈ (s.setTracker [⟨0, 1, 0, false⟩]).tracker, e.granule = 0 ∧ e.depth = s.depth) ∧
    (s.setJournal { s.journal with n := 156 }).journal.n < s.journal.capacity ∧
    ¬(s.setJournal { s.journal with n := 157 }).journal.n < s.journal.capacity := by
  exact ⟨rfl, rfl, rfl, rfl, rfl, Nat.le_refl 1, by decide +kernel, by decide +kernel,
    ⟨⟨0, 1, 0, false⟩, by decide +kernel, rfl, rfl⟩, by decide +kernel, by decide +kernel⟩

/-- A record that passes, and one that fails its index, in ABORTING and in RESTORING, with and without a cycle held
for the abort. -/
theorem witness_RestoreRecordReadPassesOrFaults :
    (∀ op ∈ [OpState.aborting, .startup .restoring], ∀ p ∈ [0, 1], ∀ x ∈ held,
      let s := (atLastRead op p).withHeld x
      (∃ m, CycleDue s .engine m ∧ m.isWrite = false) ∧ s.Lifts x ∧
        s.engine.cursor = some 0 ∧ s.txn.op = op ∧ s.command.inFlight = some (.abort, 9) ∧
        s.engine.reads + 1 = s.geometry.granule + 10) ∧
    verifyRecord (atLastRead .aborting 0) (recordOf 0) 0 = none ∧
    verifyRecord (atLastRead .aborting 1) (recordOf 1) 0 = some .index ∧
    (atLastRead .aborting 0).engine.buffer.take 25 ++ [(atLastRead .aborting 0).mem.read 0] = recordOf 0 := by
  refine ⟨?_, by decide +kernel, by decide +kernel, by decide +kernel⟩
  intro op _ p _ x hx
  exact ⟨⟨_, ⟨rfl, rfl, rfl, Memory.wf_write _ _ _ rfl⟩, rfl⟩,
    (lifts_withHeld (atLastRead op p) rfl rfl rfl rfl x hx), rfl, rfl, rfl, rfl⟩

/-- One position above the stopping position, with a read held for the granule: still pending, and no more. A cycle
that ends no record and no step: the first and the last but one of the reads and of the writes. -/
theorem witness_RestoreStepMovesDown :
    (∀ t ∈ [[(⟨5, 1, 0, true⟩ : TrackerEntry)], []],
      let s := ((((ready.inState .aborting).restoring (.depth 1) 1 0 26 15).setTracker t).setHost
        { ready.host with cycle := some ⟨0x00050, false, 0, .window .openMode 5 0, some .pending⟩ }).flight
          .engine 0x0000F true 0
      ∃ m p c, CycleDue s .engine m ∧ s.engine.cursor = some p ∧ s.engine.stop < p ∧
        s.geometry.granule + 10 ≤ s.engine.reads ∧ s.engine.writes + 1 = s.geometry.granule ∧
        s.host.cycle = some c ∧ c.cause = some .pending) ∧
    (∀ reads ∈ [0, 24],
      let s := (ready.restoring .all 1 0 reads 0).flight .engine 0x1E01A false 0
      (∃ m, CycleDue s .engine m) ∧ s.engine.reads = reads ∧ s.warning = false ∧ s.engine.cursor.isSome = true) ∧
    (∀ writes ∈ [0, 14],
      let s := (ready.restoring .all 1 0 26 writes).flight .engine 0 true 0
      (∃ m, CycleDue s .engine m) ∧ s.engine.reads = 26 ∧ s.engine.writes = writes) ∧
    (24 + 1 < ready.geometry.granule + 10 ∧ ready.geometry.granule + 10 = 26 ∧
      14 + 1 ≠ ready.geometry.granule) := by
  refine ⟨fun _ _ => ⟨_, _, _, ⟨rfl, rfl, rfl, rfl⟩, rfl, Nat.zero_lt_one, Nat.le_refl 26, rfl, rfl, rfl⟩,
    fun _ _ => ⟨⟨_, rfl, rfl, rfl, rfl⟩, rfl, rfl, rfl⟩, fun _ _ => ⟨⟨_, rfl, rfl, rfl, rfl⟩, rfl, rfl⟩, ?_⟩
  decide +kernel

/-- The last step of an inner abort, of an outer one, and of the start-up restore, with and without a cycle held. -/
theorem witness_LastRestoreStepEndsTheRun :
    ∀ x ∈ [(OpState.aborting, Target.depth 2), (.aborting, .depth 1), (.startup .restoring, .all)], ∀ h ∈ held,
      let s := (((ready.setTxn { ready.txn with op := x.1, found := 1 }).restoring x.2 1 1 26 15).flight
        .engine 0x0000F true 0).withHeld h
      ∃ m p k, CycleDue s .engine m ∧ s.engine.cursor = some p ∧ s.engine.stop = p ∧ s.Lifts h ∧
        s.geometry.granule + 10 ≤ s.engine.reads ∧ s.engine.writes + 1 = s.geometry.granule ∧
        s.config.loaded = some k ∧ s.config.adopting = false ∧ s.txn.op = x.1 ∧ s.engine.target = x.2 ∧
        s.txn.found ≠ 0 ∧ s.journal.slot = some .a :=
  fun _ _ h hh => ⟨_, _, _, ⟨rfl, rfl, rfl, rfl⟩, rfl, rfl, (lifts_withHeld _ rfl rfl rfl rfl h hh), Nat.le_refl 26,
    rfl, rfl, rfl, rfl, rfl, Nat.one_ne_zero, rfl⟩

theorem witness_VoidMarkEndsTheInnerAbort :
    ∀ x ∈ held,
      let s := (((((ready.inState .aborting).opened [frame2, frame1]).executing .abort).doing .voidMark 0).flight
        .control 0x1E01A true 0x5A).withHeld x
      ∃ m, SequenceDue s .voidMark m ∧ s.Lifts x ∧ s.command.inFlight = some (.abort, 9) ∧
        s.txn.frames = frame2 :: [frame1] :=
  fun x hx => ⟨_, ⟨⟨rfl, rfl, rfl, rfl⟩, rfl⟩, (lifts_withHeld _ rfl rfl rfl rfl x hx), rfl, rfl⟩

/-! #### Header slots, configuration slots and start-up -/

/-- The slot of a header, valid, and each byte of it made wrong that a test of R11 reads. -/
theorem witness_CurrentHeaderIsChosen :
    readHeader 128 (headerBytes 9 (configGeometry sample)) = some ⟨9, configGeometry sample⟩ ∧
    readHeader 128 (zeros 16) = none ∧ readHeader 128 (headerBytes 0 (configGeometry sample)) = none ∧
    readHeader 124 (headerBytes 9 (configGeometry sample)) = none := by decide +kernel

/-- Both slots read, valid or not, in SCANNING and in COMMITTING; with no current header. -/
def slotsRead (op : OpState) (valid : Bool) : State :=
  let h := headerBytes 9 (configGeometry sample)
  let l := if valid then h ++ h else zeros 32
  ((((ready.inState op).setJournal { ready.journal with slot := none }).setControl
    { ready.control with current := some .headerRead, done := 31, buffer := l.take 31 }).setMem
      (Memory.write [] 0 (byteAt l 31))).flight .control 0 false 0

/-- In SCANNING and in COMMITTING under the configuration in force, and in SETUP during an ADOPT from UNCONFIGURED,
with no configuration in force. -/
theorem witness_HeaderSlotsAreRead :
    (∀ op ∈ [OpState.startup .scanning, .committing], ∀ valid ∈ [true, false],
      ∃ m, SequenceDue (slotsRead op valid) .headerRead m ∧ m.isWrite = false ∧
        (slotsRead op valid).control.done + 1 = 32 ∧
        (slotsRead op valid).config.loaded = some sample ∧ (slotsRead op valid).config.adopting = false ∧
        (slotsRead op valid).journal.slot = none) ∧
    (∀ valid ∈ [true, false],
      let s := (slotsRead .setup valid).setConfig { ready.config with
        loaded := none, adopting := true, origin := some .unconfigured, buffer := zeros 64 }
      ∃ m, SequenceDue s .headerRead m ∧ m.isWrite = false ∧ s.control.done + 1 = 32 ∧
        s.config.loaded = none ∧ s.config.adopting = true ∧ s.txn.op.isStartup = false ∧
        s.journal.slot = none) := by
  refine ⟨?_, ?_⟩
  · intro op _ valid _
    exact ⟨_, ⟨⟨rfl, rfl, rfl, Memory.wf_write _ _ _ rfl⟩, rfl⟩, rfl, rfl, rfl, rfl, rfl⟩
  · intro valid _
    exact ⟨_, ⟨⟨rfl, rfl, rfl, Memory.wf_write _ _ _ rfl⟩, rfl⟩, rfl, rfl, rfl, rfl, rfl, rfl⟩

/-- The last byte of a header, in each state whose work an advance ends, with and without a cycle held. -/
theorem witness_EpochAdvanceEndsItsWork :
    ∀ op ∈ [OpState.committing, .aborting, .faulted, .setup, .startup .closing], ∀ x ∈ held,
      let k := Sequence.headerWrite .b 2 (configGeometry sample)
      let s := (((((ready.inState op).opened [frame1]).executing .commit).doing k 15).flight
        .control 0x1FEDF true 0).withHeld x
      ∃ m, SequenceDue s k m ∧ s.control.done + 1 = 16 ∧ s.Lifts x ∧
        s.command.inFlight = some (.commit, 9) ∧ s.txn.op = op ∧ s.txn.frames = [frame1] :=
  fun _ _ x hx => ⟨_, ⟨⟨rfl, rfl, rfl, rfl⟩, rfl⟩, rfl, (lifts_withHeld _ rfl rfl rfl rfl x hx), rfl, rfl, rfl⟩

theorem witness_EpochAdvanceTakesEffect :
    let k := Sequence.headerWrite .b 2 (configGeometry sample)
    let s := (ready.doing k 15).flight .control 0x1FEDF true 0
    ∃ m, SequenceDue s k m ∧ s.control.done + 1 = 16 := ⟨_, ⟨⟨rfl, rfl, rfl, rfl⟩, rfl⟩, rfl⟩

/-- The configuration record of the sample. -/
def sampleRecord : List Byte :=
  let body := halfBytes configTag ++ [16, 24] ++ halfOf 2000 ++ [4] ++ halfOf 120 ++ halfOf 4 ++ [3]
    ++ halfOf 0 ++ halfOf 1024 ++ [1, 0] ++ halfOf 2048 ++ halfOf 256 ++ [2, 0]
    ++ halfOf 4096 ++ halfOf 128 ++ [3, 0] ++ zeros 30 ++ halfOf 0x21
  body ++ halfBytes (crc 0xFFFF body)

/-- The last read of a slot that holds the sample's record, or zeros. -/
def configRead (op : OpState) (slot : ConfigSlot) (valid : Bool) : State :=
  let l := if valid then sampleRecord else zeros 64
  (((((ready.inState op).executing .adopt).doing (.configRead slot) 0).setConfig
    { ready.config with progress := 63, buffer := l.take 63 }).setMem (Memory.write [] 0 (byteAt l 63))).flight
      .control 0 false 0

set_option maxRecDepth 20000 in
/-- Records of 64 bytes that pass and that fail the first test, and one that fails the last test but one and the last
(its first window's mode and pad wrong, with the check code of those bytes); the slot of each in each place. -/
theorem witness_ConfigSlotIsJudged :
    (∀ slot ∈ [ConfigSlot.staged, .primary, .secondary], ∀ valid ∈ [true, false],
      let s := configRead (if slot = .staged then .setup else .startup .loading) slot valid
      ∃ m, SequenceDue s (.configRead slot) m ∧ s.config.progress + 1 = 64 ∧ m.isWrite = false ∧
        s.command.inFlight = some (.adopt, 9)) ∧
    (sampleRecord.length = 64 ∧ (zeros 64).length = 64) ∧
    validate 128 sampleRecord = none ∧ validate 128 (zeros 64) = some .tag ∧
    validate 128 (sampleRecord.set 16 9) = some .check ∧
    (let body := ((sampleRecord.set 16 9).set 17 9).take 62
     validate 128 (body ++ halfBytes (crc 0xFFFF body)) = some .mode) ∧
    readConfig sampleRecord = sample := by
  refine ⟨?_, by decide +kernel, by decide +kernel, by decide +kernel, by decide +kernel, by decide +kernel,
    by decide +kernel⟩
  intro slot _ valid _
  exact ⟨_, ⟨⟨rfl, rfl, rfl, Memory.wf_write _ _ _ rfl⟩, rfl⟩, rfl, rfl, rfl⟩

theorem witness_ConfigSlotIsWritten :
    ∀ slot ∈ [ConfigSlot.secondary, .primary],
      let s := ((((ready.inState .setup).executing .adopt).doing (.configWrite slot) 0).setConfig
        { ready.config with adopting := true, progress := 63 }).flight .control 0x1FEBF true 0
      ∃ m, SequenceDue s (.configWrite slot) m ∧ s.config.progress + 1 = 64 ∧ s.host.cycle = none ∧
        s.txn.op = .setup ∧ s.config.adopting = true :=
  fun _ _ => ⟨_, ⟨⟨rfl, rfl, rfl, rfl⟩, rfl⟩, rfl, rfl, rfl, rfl⟩

/-- A scan at a position with some of the record's bytes read. -/
def scanning (p : Nat) (l : List Byte) (b : Byte) : State :=
  (((ready.inState (.startup .scanning)).setControl
    { ready.control with current := some .scan, scanPos := p, scanLink := 1, buffer := l }).setMem
      (Memory.write [] 0 b)).flight .control 0 false 0

theorem scanning_mem (p : Nat) (l : List Byte) (b : Byte) : MemoryLaw (scanning p l b) :=
  Memory.wf_write _ _ _ rfl

/-- A wrong tag at position 0 and at position 3, and the last position, 156, accepted. -/
theorem witness_ScanEndsWithTheRecordsFound :
    (∀ p ∈ [0, 3], ∃ m, SequenceDue (scanning p [] 0) .scan m ∧ m.isWrite = false ∧
      (scanning p [] 0).host.cycle = none ∧ (scanning p [] 0).txn.op = .startup .scanning) ∧
    ((scanning 0 [] 0).mem.read 0 ≠ 0xA5) ∧
    (let s := scanning 156 ((recordOf 156).take 25) (byteAt (recordOf 156) 25)
     let l := s.control.buffer ++ [s.mem.read 0]
     (∃ m, SequenceDue s .scan m ∧ m.isWrite = false) ∧ l.length = s.geometry.granule + 10 ∧
       halfAt l 24 = crc (epochSeed s.journal.epoch) (l.take 24) ∧
       s.control.scanPos + 1 = s.journal.capacity) ∧
    ((scanning 0 [] 0).journal.geometry = some (Geometry.mk 120 4 16 0x21) ∧
      (scanning 0 [] 0).journal.slot = some .a ∧ (scanning 0 [] 0).config.loaded = some sample) := by
  refine ⟨?_, by decide +kernel, ⟨⟨_, ⟨⟨rfl, rfl, rfl, scanning_mem _ _ _⟩, rfl⟩, rfl⟩, ?_⟩, rfl, rfl, rfl⟩
  · intro p _; exact ⟨_, ⟨⟨rfl, rfl, rfl, rfl⟩, rfl⟩, rfl, rfl, rfl⟩
  · decide +kernel

/-- The ends of each kind of update; and for what is captured, the first cycle, the leading field's first byte, the
event area's and the result record's, with a frame open and with eight. -/
theorem witness_UpdatesEndWhatTheyReport :
    (∀ e ∈ [EndState.ready, .unconfigured, .faulted],
      let s := ((ready.setTxn { ready.txn with op := .startup .closing, endState := some e }).doing
        (.update .final) 167).flight .control 0x1FF47 true 0
      ∃ m, SequenceDue s (.update .final) m ∧ s.control.done + 1 = s.status.snapReads + 168 ∧
        s.txn.op = .startup .closing ∧ s.txn.endState = some e) ∧
    (let s := ((ready.executing .begin).doing (.update .command) 199).flight .control 0x1FEFF true 0
     ∃ m, SequenceDue s (.update .command) m ∧ s.control.done + 1 = s.status.snapReads + 200) ∧
    (∀ x ∈ [(UpdateKind.raise, 168), (.progress, 64)],
      let s := (ready.doing (.update x.1) (x.2 - 1)).flight .control 0x1FF00 true 0
      ∃ m, SequenceDue s (.update x.1) m ∧ s.control.done + 1 = s.status.snapReads + x.2) ∧
    (∀ d ∈ [1, 8], ∀ i ∈ [0, 4, 68, 172],
      let s := ((ready.opened (List.replicate d frame2)).doing (.update .command) i).setStatus
        { ready.status with snapReads := 4, snapshot := some 7, queue := [⟨.powerWarning, .none, none, 1⟩] }
      s.control.done = i ∧ s.depth ≤ 8 ∧ s.status.snapshot = some 7 ∧ s.status.queue.length ≤ 4 ∧
        (OpState.ready, (0x01 : Byte)) ∈ [(s.txn.op, (0x01 : Byte))]) ∧
    (∀ d < 8, (0x01 : Byte).getLsbD d = ([frame2].reverse[d]?).any (fun f => f.short) ∧
      (0x00 : Byte).getLsbD d = ([frame2].reverse[d]?).any (fun f => f.spill)) := by
  refine ⟨fun _ _ => ⟨_, ⟨⟨rfl, rfl, rfl, rfl⟩, rfl⟩, rfl, rfl, rfl⟩, ⟨_, ⟨⟨rfl, rfl, rfl, rfl⟩, rfl⟩, rfl⟩, ?_,
    by decide +kernel, by decide⟩
  simp only [List.forall_mem_cons]
  exact ⟨⟨_, ⟨⟨rfl, rfl, rfl, rfl⟩, rfl⟩, rfl⟩, ⟨_, ⟨⟨rfl, rfl, rfl, rfl⟩, rfl⟩, rfl⟩, fun _ h => nomatch h⟩

/-- A waiting sequence; and a cycle that is not the last of each kind of sequence: at its first and its last but one,
for the scan with a tag accepted and with a whole record accepted below C, and for updates at the last snapshot
read, the leading field's first byte and the event area's last byte. -/
theorem witness_ControlUnitBeginsTheLongestWaiting :
    (∀ k, let s := ready.setControl { ready.control with waiting := [k, .update .raise] }
     s.resetting = false ∧ s.control.current = none ∧ s.control.waiting = k :: [.update .raise]) ∧
    (ready.control.current = none ∧ ready.control.waiting = []) ∧
    ((ready.doing .scan 0).control.current ≠ none) ∧
    (∀ x ∈ [(Sequence.headerWrite .b 2 (configGeometry sample), 14), (.headerRead, 30), (.update .progress, 62),
        (.update .raise, 166), (.update .final, 166), (.update .command, 167), (.update .command, 198)],
      ∀ i ∈ [0, x.2], let s := (ready.doing x.1 i).flight .control 0 false 0
        (∃ m, SequenceDue s x.1 m) ∧ s.control.done = i) ∧
    (∀ slot, ∀ p ∈ [0, 62], ∀ k ∈ [Sequence.configRead slot, .configWrite slot],
      let s := ((ready.doing k 0).setConfig { ready.config with progress := p }).flight .control 0 false 0
      (∃ m, SequenceDue s k m) ∧ s.config.progress + 1 ≠ 64) ∧
    (∀ kind, ∀ i ∈ [3, 4, 171],
      let s := ((ready.doing (.update kind) i).setStatus { ready.status with snapReads := 4 }).flight
        .control 0 false 0
      (∃ m, SequenceDue s (.update kind) m) ∧ s.control.done = i ∧ s.status.snapReads = 4) ∧
    (∃ m, SequenceDue (scanning 0 [] 0xA5) .scan m) ∧
    (let s := scanning 0 [] 0xA5
     let l := s.control.buffer ++ [s.mem.read 0]
     ¬ScanRejects s l ∧ ¬ScanAccepts s l) ∧
    (let s := scanning 3 ((recordOf 3).take 25) (byteAt (recordOf 3) 25)
     let l := s.control.buffer ++ [s.mem.read 0]
     ¬ScanRejects s l ∧ ScanAccepts s l ∧ s.control.scanPos + 1 ≠ s.journal.capacity) := by
  unfold ScanRejects ScanAccepts
  refine ⟨fun _ => ⟨rfl, rfl, rfl⟩, ⟨rfl, rfl⟩, nofun,
    fun _ _ _ _ => ⟨⟨_, ⟨rfl, rfl, rfl, rfl⟩, rfl⟩, rfl⟩, ?_,
    fun _ _ _ => ⟨⟨_, ⟨rfl, rfl, rfl, rfl⟩, rfl⟩, rfl, rfl⟩,
    ⟨_, ⟨rfl, rfl, rfl, scanning_mem _ _ _⟩, rfl⟩, by decide +kernel, by decide +kernel⟩
  intro slot p hp k _
  refine ⟨⟨_, ⟨rfl, rfl, rfl, rfl⟩, rfl⟩, ?_⟩
  change p + 1 ≠ 64
  simp at hp; omega

/-! #### Commands -/

/-- A low level last seen with busy clear and nothing on the host path, with a passing journaled write, and with
busy set; and a high level last seen. -/
theorem witness_StrobeIsTakenOrIgnored :
    (ready.resetting = false ∧ ready.command.strobe = false ∧ ready.command.busy = false ∧
      ready.journaledWork = false) ∧
    ((ready.holding none).command.busy = false ∧ (ready.holding none).command.strobe = false ∧
      (ready.holding none).journaledWork = true) ∧
    ((ready.executing .begin).command.busy = true ∧ (ready.executing .begin).command.strobe = false) ∧
    (ready.setCommand { ready.command with strobe := true }).command.strobe = true := by decide +kernel

theorem due (s : State) (cmd : Command) (h : s.resetting = false) (w : s.journaledWork = false) :
    CommandDue (s.waiting cmd) cmd 9 := ⟨h, rfl, rfl, w⟩

/-- The row's command waits; none is in flight with the busy flag clear and set; another is in flight. -/
theorem witness_CommandRowsGiveTheirCommand :
    CommandDue (ready.waiting .commit) .commit 9 ∧
    (ready.command.inFlight = none ∧ ready.command.busy = false ∧ commandOf 2 = .commit) ∧
    (State.reset.command.inFlight = none ∧ State.reset.command.busy = true) ∧
    ((ready.waiting .begin).command.inFlight = some (.begin, 9) ∧ Command.begin ≠ .commit) :=
  ⟨due _ _ rfl rfl, ⟨rfl, rfl, rfl⟩, ⟨rfl, rfl⟩, ⟨rfl, by decide⟩⟩

theorem witness_PowerWarningRefusesCommands :
    CommandDue ((ready.setWarning true).waiting .setup) .setup 9 ∧
    ((ready.setWarning true).waiting .setup).warning = true ∧ Command.setup ≠ .acknowledge :=
  ⟨due _ _ rfl rfl, rfl, by decide⟩

/-- BEGIN at depth 8, COMMIT at depth 0, SETUP at depth 1, and ADOPT in READY. -/
theorem witness_CommandsAreRefusedByStateAndDepth :
    CommandDue ((ready.opened (List.replicate 8 frame1)).waiting .begin) .begin 9 ∧
    Command.begin.refusal .ready (ready.opened (List.replicate 8 frame1)).depth = some .depthLimit ∧
    (ready.opened (List.replicate 8 frame1)).depth ≤ 8 ∧
    CommandDue (ready.waiting .commit) .commit 9 ∧ Command.commit.refusal .ready ready.depth = some .noFrame ∧
    CommandDue ((ready.opened [frame1]).waiting .setup) .setup 9 ∧
    Command.setup.refusal .ready (ready.opened [frame1]).depth = some .refusedState ∧
    CommandDue (ready.waiting .adopt) .adopt 9 ∧ Command.adopt.refusal .ready 0 = some .refusedState := by
  exact ⟨due _ _ rfl rfl, by decide +kernel, by decide +kernel, due _ _ rfl rfl, by decide +kernel,
    due _ _ rfl rfl, by decide +kernel, due _ _ rfl rfl, by decide +kernel⟩

/-- An empty queue, a queue of one entry and a queue of two. -/
theorem witness_AcknowledgeRemovesTheOldestEntry :
    ∀ l ∈ [[], [(⟨.journalFull, .none, none, 1⟩ : EventEntry)],
        [⟨.journalFull, .none, none, 1⟩, ⟨.powerWarning, .none, none, 1⟩]],
      let s := (ready.setStatus { ready.status with queue := l }).waiting .acknowledge
      CommandDue s .acknowledge 9 ∧ s.status.queue = l :=
  fun _ _ => ⟨due _ _ rfl rfl, rfl⟩

theorem witness_BeginOpensAFrame :
    ∀ d ∈ [0, 7],
      let s := (ready.opened (List.replicate d frame1)).waiting .begin
      CommandDue s .begin 9 ∧ s.warning = false ∧ s.txn.op = .ready ∧ s.depth ≤ 7 := by
  intro d hd
  refine ⟨due _ _ rfl rfl, rfl, rfl, ?_⟩
  change (List.replicate d frame1).length ≤ 7
  rw [List.length_replicate]; simp at hd; omega

/-- An inner frame, a short frame 1, and a whole frame 1. -/
theorem witness_CommitClosesTheTopFrame :
    ∀ l ∈ [[frame2, frame1], [{ frame1 with short := true }], [frame1]],
      let s := (ready.opened l).waiting .commit
      CommandDue s .commit 9 ∧ s.warning = false ∧ s.txn.op = .ready ∧ s.txn.frames = l ∧
        s.config.adopting = false ∧ s.config.loaded = some sample :=
  fun _ _ => ⟨due _ _ rfl rfl, rfl, rfl, rfl, rfl, rfl⟩

/-- An inner frame with one record and with none, and frame 1 with none; with no host cycle, and with a read that
waits for its memory cycle. -/
theorem witness_AbortUndoesTheTopFrame :
    ∀ x ∈ [([frame2, frame1], 2), ([frame2, frame1], 1), ([frame1], 0)],
      ∀ c ∈ [none, some ⟨0x00050, false, 0, .window .openMode 5 0, some .memory⟩],
      let s := (((ready.opened x.1).setJournal { ready.journal with n := x.2 }).waiting .abort).setHost
        { ready.host with cycle := c }
      CommandDue s .abort 9 ∧ s.warning = false ∧ s.txn.op = .ready ∧ s.txn.frames = x.1 ∧
        s.journal.n = x.2 ∧ s.NoneToLift ∧ s.config.adopting = false ∧ s.config.loaded = some sample := by
  intro x _ c hc
  refine ⟨⟨rfl, rfl, rfl, ?_⟩, rfl, rfl, rfl, rfl, ?_, rfl, rfl⟩
  · simp only [List.mem_cons, List.not_mem_nil, or_false] at hc
    rcases hc with rfl | rfl <;> rfl
  · intro c' y h1 h2
    simp only [List.mem_cons, List.not_mem_nil, or_false] at hc
    rcases hc with rfl | rfl
    · cases h1
    · cases h1; cases h2; rfl

/-- READY at depth 1 with no record and with one, and FAULTED at depth 0. -/
theorem witness_UnwindUndoesEveryFrame :
    ∀ n ∈ [0, 1],
      (let s := ((ready.opened [frame1]).setJournal { ready.journal with n := n }).waiting .unwind
       CommandDue s .unwind 9 ∧ s.warning = false ∧ s.txn.op = .ready ∧ 1 ≤ s.depth ∧ s.journal.n = n) ∧
      (let s := ((ready.inState .faulted).setJournal { ready.journal with n := n }).waiting .unwind
       CommandDue s .unwind 9 ∧ s.warning = false ∧ s.txn.op = .faulted ∧ s.journal.n = n) :=
  fun _ _ => ⟨⟨due _ _ rfl rfl, rfl, rfl, Nat.le_refl 1, rfl⟩, ⟨due _ _ rfl rfl, rfl, rfl, rfl⟩⟩

theorem witness_SetupIsEntered :
    ∀ op ∈ [OpState.ready, .unconfigured, .setup],
      let s := (ready.inState op).waiting .setup
      CommandDue s .setup 9 ∧ s.warning = false ∧ s.txn.op = op ∧ s.depth = 0 :=
  fun _ _ => ⟨due _ _ rfl rfl, rfl, rfl, rfl⟩

theorem witness_AbortInSetupCancels :
    ∀ o ∈ [SetupOrigin.ready, .unconfigured], ∀ w ∈ [true, false],
      let s := (((ready.inState .setup).setConfig { ready.config with origin := some o }).setWarning w).waiting .abort
      CommandDue s .abort 9 ∧ s.txn.op = .setup ∧ s.config.origin = some o ∧ s.warning = w :=
  fun _ _ _ _ => ⟨due _ _ rfl rfl, rfl, rfl, rfl⟩

/-- ADOPT with no staged-slot write in progress and with one; DISCARD in FAULTED. -/
theorem witness_AdoptAndDiscardBeginTheirWork :
    (let s := (ready.inState .setup).waiting .adopt
     CommandDue s .adopt 9 ∧ s.warning = false ∧ s.txn.op = .setup ∧ s.stagedWork = false) ∧
    (let s := ((ready.inState .setup).setHost { ready.host with
       cycle := some ⟨0x1FE00, true, 1, .control true, none⟩ }).waiting .adopt
     CommandDue s .adopt 9 ∧ s.txn.op = .setup ∧ s.stagedWork = true) ∧
    (let s := (ready.inState .faulted).waiting .discard
     CommandDue s .discard 9 ∧ s.warning = false ∧ s.txn.op = .faulted ∧ s.config.adopting = false ∧
       s.config.loaded = some sample) := by
  exact ⟨⟨due _ _ rfl rfl, rfl, rfl, by decide +kernel⟩, ⟨due _ _ rfl rfl, rfl, by decide +kernel⟩,
    ⟨due _ _ rfl rfl, rfl, rfl, rfl, rfl⟩⟩

/-! #### Queue, arbiter and decoder -/

/-- A kind in the queue, a fourth kind with room, and a fifth kind without; an update that carries the raise, one
owed, one of the command in flight before and after its event-area write began, and none. -/
theorem witness_RaiseIsTakenByTheQueue :
    (let q3 : List EventEntry := [⟨.writeRefused, .none, none, 255⟩, ⟨.journalFull, .none, none, 1⟩,
       ⟨.holdExpired, .none, none, 1⟩]
     let q4 := q3 ++ [⟨.powerWarning, .none, none, 1⟩]
     (∃ e ∈ q3, e.kind = .writeRefused) ∧ (∀ e ∈ q3, e.kind ≠ .trackerSpill) ∧ q3.length < 4 ∧
     (∀ e ∈ q4, e.kind ≠ .trackerSpill) ∧ 4 ≤ q4.length) ∧
    ((ready.inState (.startup .scanning)).txn.op.isStartup = true ∧
      (ready.inState (.startup .scanning)).control.current = none) ∧
    (ready.setStatus { ready.status with owed := true }).status.owed = true ∧
    ((ready.executing .commit).command.inFlight.isSome = true ∧ (ready.executing .commit).control.current = none) ∧
    (let s := ((ready.executing .commit).doing (.update .command) 64).setStatus
       { ready.status with areaBegun := true }
     s.command.inFlight.isSome = true ∧ s.control.current = some (.update .command) ∧
       s.status.areaBegun = true ∧ s.status.owed = false) ∧
    (ready.txn.op.isStartup = false ∧ ready.status.owed = false ∧ ready.command.inFlight.isSome = false) := by
  decide +kernel

/-- All three claims stand, below every yield limit and with the control unit at its own; a host cycle that waits
with cause MEMORY, and an update's cycle. -/
theorem witness_ArbiterGrantsByYield :
    (let p : Port := { ready.port with claimHost := true, claimControl := true, claimEngine := true,
                                       yieldControl := 3, yieldEngine := 3 }
     p.inFlight = none ∧ ¬p.yieldLimit ≤ p.yieldControl ∧ ¬p.yieldLimit ≤ p.yieldEngine) ∧
    (let p : Port := { ready.port with claimHost := true, claimControl := true, claimEngine := true,
                                       yieldControl := 4, yieldEngine := 4 }
     p.inFlight = none ∧ p.yieldLimit ≤ p.yieldControl ∧ p.yieldLimit ≤ p.yieldEngine) ∧
    (ready.holding (some .memory)).claimHost.port.claimHost = true ∧
    (let s := (ready.doing (.update .raise) 0).claimControl
     s.control.current = some (.update .raise) ∧ s.port.claimControl = true ∧ s.port.claimHost = false) := by
  decide +kernel

/-- The map and the control area are in force; each test of R63 at an end of its range; with no map, and with no
control-area bounds either. -/
theorem witness_AddressesAreClassified :
    ready.decoder.control = some 0x1FE00 ∧ ready.decoder.map = some (configMap sample) ∧
    ready.port.strap * 1024 = 0x20000 ∧
    (0x1FE00 ≤ (0x1FFFF : Addr).toNat ∧ (0x1FFFF : Addr).toNat < 0x1FE00 + 512) ∧
    (120 * 1024 = (0x1E000 : Addr).toNat ∧ (0x1EFFF : Addr).toNat < (120 + 4) * 1024) ∧
    ((0x107FF : Addr).toNat / 16 = 4096 + 128 - 1) ∧
    (let s := ready.setDecoder { ready.decoder with map := none }
     s.decoder.control = some 0x1FE00 ∧ s.decoder.map = none ∧ classify s 0x1FE00 = .control true ∧
       classify s 0x00005 = .unguarded) ∧
    (State.reset.decoder.control = none ∧ State.reset.decoder.map = none) := by decide +kernel

end Sys2Proof.Machine
end

section
/-! SUPPORT. The completion of an append (R18): the check code of the record as a field of it, the
memory after a landed cycle, and what APPEND_COMPLETE leaves block by block. -/

namespace Sys2Proof.Machine

/-! ### The check code of a record (R4, R186) -/

/-- A field read back where it was written (R186). -/
theorem halfAt_append_halfBytes (l : List Byte) (h : Half) : halfAt (l ++ halfBytes h) l.length = h := by
  have hlow : byteAt (l ++ halfBytes h) l.length = h.extractLsb' 0 8 := by
    simp [byteAt, halfBytes]
  have hhigh : byteAt (l ++ halfBytes h) (l.length + 1) = h.extractLsb' 8 8 := by
    simp [byteAt, halfBytes, List.getD_eq_getElem?_getD]
  rw [halfAt, hlow, hhigh]
  exact (BitVec.extractLsb'_append_extractLsb'_eq_extractLsb' (by rfl)).trans (by simp)

theorem recordBody_length (depth granule index : Nat) (link : Half) (payload : List Byte) :
    (recordBody depth granule index link payload).length = payload.length + 8 := by
  simp [recordBody, halfOf, halfBytes]

/-- The stored check code of a record as an append writes it covers the record's body (R4, R5). -/
theorem recordCheck_recordBytes (epoch : Long) (depth granule index : Nat) (link : Half)
    (payload : List Byte) :
    recordCheck payload.length (recordBytes epoch depth granule index link payload) =
      crc (epochSeed epoch) (recordBody depth granule index link payload) := by
  rw [recordCheck, recordBytes, ← recordBody_length depth granule index link payload]
  exact halfAt_append_halfBytes _ _

/-! ### The memory cycle landed (R112) -/

theorem landCycle_mem_write (s : State) (m : MemCycle) (h : m.isWrite = true) :
    (landCycle s m).mem = s.mem.write m.addr.toNat m.data := by
  simp [landCycle, h]

theorem landCycle_mem_read (s : State) (m : MemCycle) (h : m.isWrite = false) :
    (landCycle s m).mem = s.mem := by
  simp [landCycle, h]

/-- In a canonical memory the landed cycle writes its one byte and leaves every other. -/
theorem memoryAfter_of_mem_eq (s t : State) (m : MemCycle) (hmem : MemoryLaw s)
    (ht : t.mem = (landCycle s m).mem) : MemoryAfter s t m := by
  refine ⟨fun hw => ?_, fun a ha => ?_⟩
  · rw [ht, landCycle_mem_write s m hw]
    exact Memory.read_write_same _ _ _ hmem
  · rw [ht]
    cases hw : m.isWrite
    case false => rw [landCycle_mem_read s m hw]
    case true =>
      rw [landCycle_mem_write s m hw]
      have hne : a ≠ m.addr.toNat := ha.resolve_left (by simp [hw])
      exact Memory.read_write_other _ _ _ _ hne.symm

/-! ### The append's end, block by block (R18, R51, R52, R68) -/

/-- The end of a host cycle may request a slot read, which sets nothing in the status unit (R161). -/
@[simp] theorem endNormally_status (s : State) (b : Byte) : (endNormally s b).status = s.status := by
  unfold endNormally releaseStagedRead requestSequence
  (repeat' split) <;> simp [beginSequence, prepareSequence, State.claimControl]

/-- With room in the table the insert adds one entry and touches nothing else (R51). -/
theorem offerInsert_room (s : State) (g d p : Nat) (h : s.tracker.length < 64) :
    offerInsert s g d p =
      s.setTracker (s.tracker ++ [{ granule := g, depth := d, index := p, pending := false }]) := by
  simp [offerInsert, h]

/-- At a full table the top frame is marked and TRACKER_SPILL raised (R46, R52). -/
theorem offerInsert_full (s : State) (g d p : Nat) (h : 64 ≤ s.tracker.length) :
    offerInsert s g d p =
      raiseEvent (s.setTxn { s.txn with frames := markTopSpill s.txn.frames })
        .trackerSpill (.depth d) none := by
  simp [offerInsert, Nat.not_lt.mpr h]

/-- N is one past the reserved position, and the chain link is the record's check code (R18). -/
theorem appendCompletes_journal (s : State) (a : Append)
    (h : s.journal.payload.length = s.geometry.granule) :
    (appendCompletes s a).journal = { s.journal with
      n := a.index + 1, append := none,
      link := crc (epochSeed s.journal.epoch)
        (recordBody a.depth a.granule a.index s.journal.link s.journal.payload) } := by
  simp [appendCompletes, appendRecord, ← h, recordCheck_recordBytes]

/-- The write ends normally, so the byte last driven stays (R68). -/
theorem appendCompletes_host (s : State) (a : Append) (c : HostCycle) (hc : s.host.cycle = some c)
    (hw : c.isWrite = true) :
    (appendCompletes s a).host =
      { cycle := none, hold := none, hfault := false, data := s.host.data } := by
  simp [appendCompletes, endNormally, hc, hw]

theorem appendCompletes_room (s : State) (a : Append) (h : s.tracker.length < 64) :
    (appendCompletes s a).tracker = s.tracker ++
        [{ granule := a.granule, depth := a.depth, index := a.index, pending := false }] ∧
      (appendCompletes s a).txn = s.txn ∧ (appendCompletes s a).status = s.status := by
  simp [appendCompletes, offerInsert_room, h]

theorem appendCompletes_full (s : State) (a : Append) (h : 64 ≤ s.tracker.length) :
    (appendCompletes s a).tracker = s.tracker ∧
      (appendCompletes s a).txn = { s.txn with frames := markTopSpill s.txn.frames } ∧
      (appendCompletes s a).status.queue =
        (takeRaise s.status .trackerSpill (.depth a.depth) none).queue ∧
      (appendCompletes s a).status.dropped =
        (takeRaise s.status .trackerSpill (.depth a.depth) none).dropped := by
  simp [appendCompletes, offerInsert_full, h]

/-! ### The row APPEND_COMPLETE -/

theorem sameCounters_appendCompletes (s : State) (m : MemCycle) (a : Append) :
    SameCounters s (settle (appendCompletes (landCycle s m) a)) := by
  constructor <;> simp [appendCompletes]

theorem sameCommand_appendCompletes (s : State) (m : MemCycle) (a : Append) :
    SameCommand s (settle (appendCompletes (landCycle s m) a)) := by
  constructor <;> simp

theorem surroundings_appendCompletes (s : State) (m : MemCycle) (a : Append) :
    Surroundings s (settle (appendCompletes (landCycle s m) a)) := by
  constructor <;> simp [appendCompletes]

theorem exec_appendComplete (s : State) : exec .appendComplete s = execAppendComplete s := rfl

/-- APPEND_COMPLETE with the host byte's cycle in flight lands it and completes the append (R17, R18). -/
theorem exec_appendComplete_due (s : State) (m : MemCycle) (a : Append) (hm : CycleDue s .host m)
    (ha : s.journal.append = some a)
    (hp : a.progress = s.geometry.granule + (s.geometry.granule + 10)) :
    exec .appendComplete s = .next (settle (appendCompletes (landCycle s m) a)) := by
  obtain ⟨hreset, hflight, hwho, -⟩ := hm
  have hlast : appendAtHostByte s a = true := by
    simp [appendAtHostByte, appendBefore, recordSize, hp]
  simp [exec_appendComplete, execAppendComplete, onCycle, unlessResetting, ha, hreset, hflight, hwho, hlast]

end Sys2Proof.Machine

namespace Sys2Proof

open Machine

/-- Settles O31: the row lands the host byte's cycle, completes the append, and closes the step, which
grants the port but leaves these blocks as the completion left them. -/
theorem appendCompletes : Obligations.AppendCompletes := by
  intro s c m a hm ha hp hlen hc hw
  have hjournal := appendCompletes_journal (landCycle s m) a (by simpa [State.geometry] using hlen)
  have hhost := appendCompletes_host (landCycle s m) a c (by simpa using hc) hw
  refine ⟨_, exec_appendComplete_due s m a hm ha hp,
    memoryAfter_of_mem_eq s _ m hm.canon (by simp), by simpa using hjournal, ?_,
    sameCounters_appendCompletes s m a, sameCommand_appendCompletes s m a,
    surroundings_appendCompletes s m a, by simp, fun hroom => ?_, fun hfull => ?_⟩
  · rw [settle_host_of_none _ (by rw [hhost]), hhost, landCycle_host]
  · obtain ⟨htracker, htxn, hstatus⟩ := appendCompletes_room (landCycle s m) a (by simpa using hroom)
    simp [htracker, htxn, hstatus]
  · simpa using appendCompletes_full (landCycle s m) a (by simpa using hfull)

end Sys2Proof
end

section
/-! SUPPORT. A command that is due begins execution (R127), what the end of an execution leaves block by block
(R126, R128), and ABORT in SETUP (R160). -/

namespace Sys2Proof.Machine

/-! ### A command that is due begins (R127) -/

theorem commandDue_of_due (s : State) (cmd : Command) (q : Half) (h : CommandDue s cmd q) :
    commandDue s = true := by
  simp [commandDue, h.waits, h.free]

/-- The row of a command gives that command to the transaction controller, unless a reset lasts. -/
theorem exec_commandRow (s : State) (cmd : Command) :
    exec cmd.row s = .next (unlessResetting s (giveCommand s cmd)) := by
  cases cmd <;> rfl

/-- A due command's own row begins its execution and closes the step. -/
theorem exec_commandRow_due (s : State) (cmd : Command) (q : Half) (h : CommandDue s cmd q) :
    exec cmd.row s = .next (settle (beginExecution s cmd q)) := by
  simp [exec_commandRow, unlessResetting, giveCommand, h.noReset, h.flight, commandDue_of_due s cmd q h]

theorem exec_commandExecutionBegin (s : State) :
    exec .commandExecutionBegin s = .next (unlessResetting s (waitingBegins s)) := rfl

/-- COMMAND_EXECUTION_BEGIN begins the execution of whichever command is due. -/
theorem exec_commandExecutionBegin_due (s : State) (cmd : Command) (q : Half) (h : CommandDue s cmd q) :
    exec .commandExecutionBegin s = .next (settle (beginExecution s cmd q)) := by
  simp [exec_commandExecutionBegin, unlessResetting, waitingBegins, h.noReset, h.flight,
    commandDue_of_due s cmd q h]

/-- The state in which the command in flight is judged (R126). -/
def State.inExecution (s : State) : State := s.setTxn { s.txn with stage := .executing }

/-- Under the power warning every command but ACKNOWLEDGE ends at once (R127, step 1). -/
theorem beginExecution_warning_asserted (s : State) (cmd : Command) (q : Half) (hw : s.warning = true)
    (hc : cmd ≠ .acknowledge) :
    beginExecution s cmd q = endExecution s.inExecution .powerWarning (.number 0) := by
  simp [beginExecution, State.inExecution, hw, hc]

/-- With the power warning negated a command is judged by its own rule (R127, step 2). -/
theorem beginExecution_warning_negated (s : State) (cmd : Command) (q : Half) (hw : s.warning = false) :
    beginExecution s cmd q = runCommand s.inExecution cmd q := by
  simp [beginExecution, State.inExecution, hw]

/-! ### The end of an execution (R126, R128) -/

/-- An update that begins resets nothing in the configuration unit (R155). -/
@[simp] theorem requestSequence_update_config (s : State) (k : UpdateKind) :
    (requestSequence s (.update k)).config = s.config := by
  unfold requestSequence
  split
  · simp [beginSequence, prepareSequence, State.claimControl]
  · simp

@[simp] theorem endExecution_config (s : State) (r : Result) (d : ResultDetail) :
    (endExecution s r d).config = s.config := by
  unfold endExecution
  split <;> simp

theorem commandFrame_settle_endExecution (s : State) (r : Result) (d : ResultDetail) :
    CommandFrame s (settle (endExecution s r d)) where
  around  := by constructor <;> simp
  command := by constructor <;> simp
  found   := by simp
  memory  := fun a => by simp
  host    := fun hc => ⟨by simp [settle_host_of_none, hc], by constructor <;> simp⟩

/-- The close of the step grants the port, so what the end of an execution leaves in these blocks stands. -/
theorem endsAtOnce_settle_endExecution (s : State) (cmd : Command) (q : Half) (r : Result)
    (d : ResultDetail) (h : s.command.inFlight = some (cmd, q)) :
    EndsAtOnce s (settle (endExecution s r d)) cmd q r d where
  txn       := by simp [State.outcome, State.depth, endExecution_txn s r d cmd q h]
  sequences := by simpa [State.sequences] using endExecution_sequences s r d cmd q h
  journal   := by simp
  tracker   := by simp
  engine    := by simp
  config    := by simp
  queue     := by simp
  dropped   := by simp
  frame     := commandFrame_settle_endExecution s r d

/-- What one part of an execution and then the next leave unchanged, both together leave unchanged. -/
theorem CommandFrame.trans {s u t : State} (h : CommandFrame s u) (h' : CommandFrame u t) :
    CommandFrame s t where
  around  := by obtain ⟨⟩ := h.around; obtain ⟨⟩ := h'.around; constructor <;> simp [*]
  command := by obtain ⟨⟩ := h.command; obtain ⟨⟩ := h'.command; constructor <;> simp [*]
  found   := by simp [h.found, h'.found]
  memory  := fun a => (h'.memory a).trans (h.memory a)
  host    := fun hc => by
    obtain ⟨hhost, hrefused, hexpired, hfaults⟩ := h.host hc
    obtain ⟨hhost', hrefused', hexpired', hfaults'⟩ := h'.host (by rw [hhost, hc])
    exact ⟨hhost'.trans hhost, hrefused'.trans hrefused, hexpired'.trans hexpired, hfaults'.trans hfaults⟩

/-- Of these two blocks the frame speaks of start-up's items and of the loaded configuration alone. -/
theorem commandFrame_setTxn_setConfig (s : State) (x : Controller) (y : ConfigUnit)
    (hfound : x.found = s.txn.found ∧ x.headerWritten = s.txn.headerWritten ∧ x.endState = s.txn.endState)
    (hloaded : y.loaded = s.config.loaded) : CommandFrame s ((s.setTxn x).setConfig y) where
  around  := ⟨rfl, rfl, rfl, rfl, rfl, hloaded, rfl⟩
  command := ⟨rfl, rfl, rfl, rfl⟩
  found   := hfound
  memory  := fun _ => rfl
  host    := fun _ => ⟨rfl, rfl, rfl, rfl⟩

theorem commandFrame_inExecution (s : State) : CommandFrame s s.inExecution :=
  commandFrame_setTxn_setConfig s s.inExecution.txn s.config ⟨rfl, rfl, rfl⟩ rfl

/-- A command other than ACKNOWLEDGE due under the power warning is refused as it begins (R127, step 1). -/
theorem endsAtOnce_warning_asserted (s : State) (cmd : Command) (q : Half) (h : CommandDue s cmd q)
    (hw : s.warning = true) (hc : cmd ≠ .acknowledge) :
    EndsAtOnce s (settle (beginExecution s cmd q)) cmd q .powerWarning (.number 0) := by
  rw [beginExecution_warning_asserted s cmd q hw hc]
  have hend := endsAtOnce_settle_endExecution s.inExecution cmd q .powerWarning (.number 0) h.flight
  exact { hend with frame := (commandFrame_inExecution s).trans hend.frame }

/-! ### ABORT in SETUP (R160) -/

/-- The state in which the end of a cancelled setup is captured: at the SETUP origin, which is none from now on. -/
def State.setupCancelled (s : State) (o : SetupOrigin) : State :=
  (s.inExecution.setTxn { s.inExecution.txn with op := o.op }).setConfig { s.config with origin := none }

/-- With the power warning negated an ABORT in SETUP ends at once with DONE at the SETUP origin. -/
theorem beginExecution_abort_setup (s : State) (q : Half) (o : SetupOrigin) (hw : s.warning = false)
    (hop : s.txn.op = .setup) (ho : s.config.origin = some o) :
    beginExecution s .abort q = endExecution (s.setupCancelled o) .done (.number 0) := by
  rw [beginExecution_warning_negated s .abort q hw]
  simp [runCommand, runAbort, cancelSetup, State.setupCancelled, State.inExecution, hop, ho]

theorem commandFrame_setupCancelled (s : State) (o : SetupOrigin) : CommandFrame s (s.setupCancelled o) :=
  commandFrame_setTxn_setConfig s _ _ ⟨rfl, rfl, rfl⟩ rfl

/-- An ABORT due in SETUP with the power warning negated ends at once from the cancelled setup. -/
theorem endsAtOnce_abort_setup (s : State) (q : Half) (o : SetupOrigin) (h : CommandDue s .abort q)
    (hw : s.warning = false) (hop : s.txn.op = .setup) (ho : s.config.origin = some o) :
    EndsAtOnce (s.setupCancelled o) (settle (beginExecution s .abort q)) .abort q .done (.number 0) := by
  rw [beginExecution_abort_setup s q o hw hop ho]
  exact endsAtOnce_settle_endExecution _ _ _ _ _ h.flight

end Sys2Proof.Machine

namespace Sys2Proof

open Machine

/-- Settles O56: under the warning the command ends at once in the state it found, and otherwise in the
cancelled setup; what an end at once keeps is the frame of both. -/
theorem abortInSetupCancels : Obligations.AbortInSetupCancels := by
  intro s q o h hop ho
  refine ⟨_, exec_commandRow_due s .abort q h, exec_commandExecutionBegin_due s .abort q h, ?_⟩
  cases hw : s.warning with
  | true =>
    have hend := endsAtOnce_warning_asserted s .abort q h hw (by decide)
    refine ⟨hend.frame, hend.sequences, hend.journal, hend.tracker,
      hend.engine, hend.queue, hend.dropped, nofun, fun _ => ⟨?_, hend.config, ?_⟩⟩
    · rw [hend.txn]
      exact hop
    · rw [hend.txn]
  | false =>
    have hend := endsAtOnce_abort_setup s q o h hw hop ho
    exact ⟨(commandFrame_setupCancelled s o).trans hend.frame, hend.sequences, hend.journal, hend.tracker,
      hend.engine, hend.queue, hend.dropped, fun _ => ⟨hend.txn, hend.config⟩, nofun⟩

end Sys2Proof
end

section
/-! SUPPORT. The rows named for the end of one kind of memory cycle (assumption 13), and what any row can do:
`StepEffect` lists it once, and every law of the machine is proved along it. -/

namespace Sys2Proof.Machine

/-! ### The scan's verdict (R175) -/

theorem recordVerifies_iff (epoch : Long) (g : Nat) (bytes : List Byte) :
    recordVerifies epoch g bytes = true ↔
      halfAt bytes (g + 8) = crc (epochSeed epoch) (bytes.take (g + 8)) := by
  simp [recordVerifies, recordCheck]

theorem scanVerdict_reject_iff (s : State) (bytes : List Byte) :
    scanVerdict s bytes = .reject ↔ ScanRejects s bytes := by
  have hcheck := recordVerifies_iff s.journal.epoch s.geometry.granule bytes
  unfold scanVerdict ScanRejects recordSize
  grind [recordTag]

theorem scanVerdict_accept_iff (s : State) (bytes : List Byte) :
    scanVerdict s bytes = .accept ↔ ScanAccepts s bytes := by
  have hcheck := recordVerifies_iff s.journal.epoch s.geometry.granule bytes
  unfold scanVerdict ScanAccepts recordSize
  grind

/-! ### A named row's cycle -/

/-- With a reset in force, with no cycle in flight or with another one than the row names, nothing happens. -/
theorem onCycle_other (s : State) (who : Claimant) (due : Byte → Bool) (f : State → Byte → State)
    (h : ¬(s.resetting = false ∧ ∃ m, s.port.inFlight = some m ∧ m.claimant = who ∧ due (cycleByte s m) = true)) :
    onCycle s who due f = s := by
  unfold onCycle unlessResetting
  (repeat' split) <;> simp_all

/-- The cycle a row names lands, and its claimant goes on. -/
theorem onCycle_due (s : State) (who : Claimant) (due : Byte → Bool) (f : State → Byte → State) (m : MemCycle)
    (hreset : s.resetting = false) (hflight : s.port.inFlight = some m) (hwho : m.claimant = who)
    (hdue : due (cycleByte s m) = true) :
    onCycle s who due f = settle (f (landCycle s m) (cycleByte s m)) := by
  simp [onCycle, unlessResetting, hreset, hflight, hwho, hdue]

theorem exec_memoryCycleComplete (s : State) (m : MemCycle) (hreset : s.resetting = false)
    (hflight : s.port.inFlight = some m) :
    exec .memoryCycleComplete s = .next (settle (cycleEnds s m)) := by
  show execMemoryCycleComplete s = _
  simp [execMemoryCycleComplete, unlessResetting, hreset, hflight]

/-- A named row is the end of the cycle in flight where its claimant's rule is the row's own effect. -/
theorem onCycle_eq_memoryCycleComplete (s : State) (who : Claimant) (due : Byte → Bool)
    (f : State → Byte → State) (m : MemCycle) (hreset : s.resetting = false)
    (hflight : s.port.inFlight = some m) (hwho : m.claimant = who) (hdue : due (cycleByte s m) = true)
    (hf : f (landCycle s m) (cycleByte s m) = claimantGoesOn (landCycle s m) who (cycleByte s m)) :
    .next (onCycle s who due f) = exec .memoryCycleComplete s := by
  rw [exec_memoryCycleComplete s m hreset hflight, onCycle_due s who due f m hreset hflight hwho hdue, hf,
    cycleEnds, hwho]

@[simp] theorem landCycle_geometry (s : State) (m : MemCycle) : (landCycle s m).geometry = s.geometry := by
  simp [State.geometry]

@[simp] theorem sequenceAtLast_landCycle (s : State) (m : MemCycle) (k : Sequence) :
    sequenceAtLast (landCycle s m) k = sequenceAtLast s k := by
  cases k <;> simp [sequenceAtLast, updateLength]

@[simp] theorem scanVerdict_landCycle (s : State) (m : MemCycle) (bytes : List Byte) :
    scanVerdict (landCycle s m) bytes = scanVerdict s bytes := by
  simp [scanVerdict]

/-- The end of the last cycle of a sequence is that of the cycle in flight. -/
theorem lastOfSequence_due (s : State) (k : Sequence) (m : MemCycle) (hreset : s.resetting = false)
    (hflight : s.port.inFlight = some m) (hwho : m.claimant = .control) (hk : s.control.current = some k)
    (hscan : k ≠ .scan) (hlast : sequenceAtLast s k = true) :
    .next (lastOfSequence s k) = exec .memoryCycleComplete s := by
  refine onCycle_eq_memoryCycleComplete s .control _ _ m hreset hflight hwho hlast ?_
  cases k <;> simp_all [claimantGoesOn, controlCycleEnds]

theorem lastOfSequence_other (s : State) (k : Sequence)
    (h : ¬(s.resetting = false ∧ ∃ m, s.port.inFlight = some m ∧ m.claimant = .control ∧
      sequenceAtLast s k = true)) : lastOfSequence s k = s :=
  onCycle_other s _ _ _ h

/-- What a row named for the last cycle of a sequence does: with that cycle in flight, its end. -/
theorem lastOfSequence_named (s : State) (k : Sequence) (c : Instr) (hk : s.control.current = some k)
    (hscan : k ≠ .scan)
    (hnamed : CycleNamed c s ↔ s.resetting = false ∧ ∃ m, s.port.inFlight = some m ∧ m.claimant = .control ∧
      sequenceAtLast s k = true) :
    (CycleNamed c s → .next (lastOfSequence s k) = exec .memoryCycleComplete s) ∧
      (¬CycleNamed c s → Host.Outcome.next (ρ := Refusal) (φ := Fault) (lastOfSequence s k) = .next s) := by
  rw [hnamed]
  refine ⟨fun ⟨hreset, m, hflight, hwho, hlast⟩ =>
    lastOfSequence_due s k m hreset hflight hwho hk hscan hlast, fun h => ?_⟩
  rw [lastOfSequence_other s k h]

theorem exec_appendComplete_named (s : State) :
    (CycleNamed .appendComplete s → exec .appendComplete s = exec .memoryCycleComplete s) ∧
      (¬CycleNamed .appendComplete s → exec .appendComplete s = .next s) := by
  show (_ → execAppendComplete s = _) ∧ (_ → execAppendComplete s = _)
  unfold execAppendComplete
  cases ha : s.journal.append with
  | none => simp [CycleNamed, ha]
  | some a =>
    constructor
    · rintro ⟨hreset, m, hflight, hwho, a', ha', hp⟩
      obtain rfl : a = a' := by simpa [ha] using ha'
      refine onCycle_eq_memoryCycleComplete s _ _ _ m hreset hflight hwho ?_ ?_
      · simp [appendAtHostByte, appendBefore, recordSize, hp]
      · simp [claimantGoesOn, hostCycleEnds, ha, appendAtHostByte, appendBefore, recordSize, hp]
    · intro h
      simp only [Host.Outcome.next.injEq]
      apply onCycle_other
      rintro ⟨hreset, m, hflight, hwho, hlast⟩
      exact h ⟨hreset, m, hflight, hwho, a, ha,
        by simpa [appendAtHostByte, appendBefore, recordSize] using hlast⟩

theorem exec_restoreRecordRead_named (s : State) :
    (CycleNamed .restoreRecordRead s → exec .restoreRecordRead s = exec .memoryCycleComplete s) ∧
      (¬CycleNamed .restoreRecordRead s → exec .restoreRecordRead s = .next s) := by
  show (_ → execRestoreRecordRead s = _) ∧ (_ → execRestoreRecordRead s = _)
  constructor
  · rintro ⟨hreset, m, hflight, hwho, hreads⟩
    have hlast : engineAtLastRead s = true := by simp [engineAtLastRead, recordSize, hreads]
    have hlast' : engineAtLastRead (landCycle s m) = true := by simpa [engineAtLastRead] using hlast
    refine onCycle_eq_memoryCycleComplete s _ _ _ m hreset hflight hwho hlast ?_
    have hmore : s.engine.reads < recordSize s.geometry.granule := by simp [recordSize]; omega
    simp [claimantGoesOn, engineCycleEnds, hlast', hmore]
  · intro h
    unfold execRestoreRecordRead
    rw [onCycle_other]
    rintro ⟨hreset, m, hflight, hwho, hlast⟩
    exact h ⟨hreset, m, hflight, hwho, by simpa [engineAtLastRead, recordSize] using hlast⟩

theorem exec_restoreStepComplete_named (s : State) :
    (CycleNamed .restoreStepComplete s → exec .restoreStepComplete s = exec .memoryCycleComplete s) ∧
      (¬CycleNamed .restoreStepComplete s → exec .restoreStepComplete s = .next s) := by
  show (_ → execRestoreStepComplete s = _) ∧ (_ → execRestoreStepComplete s = _)
  constructor
  · rintro ⟨hreset, m, hflight, hwho, hreads, hwrites⟩
    have hlast : engineAtLastWrite s = true := by simp [engineAtLastWrite, recordSize, hreads, hwrites]
    have hlast' : engineAtLastWrite (landCycle s m) = true := by simpa [engineAtLastWrite] using hlast
    refine onCycle_eq_memoryCycleComplete s _ _ _ m hreset hflight hwho hlast ?_
    have hdone : ¬s.engine.reads < recordSize s.geometry.granule := by simp [recordSize]; omega
    simp [claimantGoesOn, engineCycleEnds, hlast', hdone]
  · intro h
    unfold execRestoreStepComplete
    rw [onCycle_other]
    rintro ⟨hreset, m, hflight, hwho, hlast⟩
    simp only [engineAtLastWrite, Bool.and_eq_true, decide_eq_true_eq, beq_iff_eq] at hlast
    exact h ⟨hreset, m, hflight, hwho, hlast⟩

/-- The scan's row asks for the verdicts that end it (R175). -/
theorem scanAtEnd_iff (s : State) (b : Byte) :
    scanAtEnd s b = true ↔ ScanRejects s (scanBytes s b) ∨
      (ScanAccepts s (scanBytes s b) ∧ s.control.scanPos + 1 = s.journal.capacity) := by
  rw [← scanVerdict_reject_iff, ← scanVerdict_accept_iff]
  unfold scanAtEnd
  split <;> simp_all

theorem exec_scanEnd_named (s : State) :
    (CycleNamed .scanEnd s → exec .scanEnd s = exec .memoryCycleComplete s) ∧
      (¬CycleNamed .scanEnd s → exec .scanEnd s = .next s) := by
  show (_ → execScanEnd s = _) ∧ (_ → execScanEnd s = _)
  unfold execScanEnd
  by_cases hk : s.control.current = some .scan
  · simp only [hk]
    constructor
    · rintro ⟨hreset, m, hflight, hwho, -, hend⟩
      refine onCycle_eq_memoryCycleComplete s _ _ _ m hreset hflight hwho ((scanAtEnd_iff s _).mpr hend) ?_
      simp [claimantGoesOn, controlCycleEnds, hk, scanBytes]
    · intro h
      simp only [Host.Outcome.next.injEq]
      apply onCycle_other
      rintro ⟨hreset, m, hflight, hwho, hend⟩
      exact h ⟨hreset, m, hflight, hwho, hk, (scanAtEnd_iff s _).mp hend⟩
  · constructor
    · rintro ⟨-, m, -, -, hk', -⟩
      exact absurd hk' hk
    · intro _
      split
      · exact absurd ‹_› hk
      · rfl

/-- The seven rows named for the last cycle of a sequence, by the sequence in progress. -/
theorem exec_sequenceRow_named (c : Instr) (s : State)
    (hc : c ∈ [Instr.voidMarkWritten, .headerSlotsRead, .epochAdvanceComplete, .configSlotReadComplete,
      .configSlotWriteComplete, .startupEnd, .statusUpdateComplete]) :
    (CycleNamed c s → exec c s = exec .memoryCycleComplete s) ∧ (¬CycleNamed c s → exec c s = .next s) := by
  simp only [List.mem_cons, List.not_mem_nil, or_false] at hc
  obtain rfl | rfl | rfl | rfl | rfl | rfl | rfl := hc
  all_goals
    simp only [exec, execVoidMarkWritten, execHeaderSlotsRead, execEpochAdvanceComplete,
      execConfigSlotReadComplete, execConfigSlotWriteComplete, execStartupEnd, execStatusUpdateComplete]
    split
    case h_1 heq =>
      refine lastOfSequence_named s _ _ heq (by simp) ?_
      simp [CycleNamed, heq, sequenceAtLast, updateLength, UpdateKind.length]
    case h_2 hne =>
      refine ⟨fun h => ?_, fun _ => rfl⟩
      simp [CycleNamed] at h
      aesop

/-! ### What a step can do -/

/-- The pieces of work a step can do before its close: the end of a reset, and outside reset the power warning, a
host cycle taken or expired, a command taken or begun, a memory cycle ended, and a sequence begun. -/
inductive StepBody (s : State) : State → Prop
  | resetEnds (msz : BitVec 3) (pwarnHigh cstrbHigh : Bool) (hr : s.resetting = true) :
    StepBody s (leaveReset s msz pwarnHigh cstrbHigh)
  | warns (hr : s.resetting = false) (hw : s.warning = false) : StepBody s (warningAsserts s)
  | negates (hr : s.resetting = false) (hw : s.warning = true) : StepBody s (warningNegates s)
  | takes (hr : s.resetting = false) (addr : Addr) (isWrite : Bool) (data : Byte) (hc : s.host.cycle = none) :
    StepBody s (takeCycle s addr isWrite data)
  | expires (hr : s.resetting = false) (t : HoldTimer) (hh : s.host.hold = some t) :
    StepBody s (expireHold (timerAtLimit s t))
  | takesStrobe (hr : s.resetting = false) (cmd : Command) (hb : s.command.busy = false) :
    StepBody s (takeStrobe s cmd)
  | begins (hr : s.resetting = false) (cmd : Command) (q : Half) (hf : s.command.inFlight = some (cmd, q))
      (hd : commandDue s = true) : StepBody s (beginExecution s cmd q)
  | ends (hr : s.resetting = false) (m : MemCycle) (hm : s.port.inFlight = some m) : StepBody s (cycleEnds s m)
  | starts (hr : s.resetting = false) (k : Sequence) (rest : List Sequence) (hc : s.control.current = none)
      (hw : s.control.waiting = k :: rest) :
    StepBody s (beginSequence (s.setControl { s.control with waiting := rest }) k)

/-- What any row, or an idle step, can do: nothing; a reset; the release of a cycle's fault; a count kept or a level
seen; or one piece of work and the close of the step. -/
inductive StepEffect (s : State) : State → Prop
  | stays : StepEffect s s
  | resets : StepEffect s (resetBlocks ((s.setMem (tornMemory s)).setFree (s.free + 1)))
  | releases : StepEffect s (s.setHost { s.host with hfault := false })
  | counts (hr : s.resetting = false) (t : HoldTimer) (hh : s.host.hold.isSome = true) :
    StepEffect s (s.setHost { s.host with hold := some t })
  | sees (hr : s.resetting = false) (high : Bool) : StepEffect s (s.setCommand { s.command with strobe := high })
  | ignores (hr : s.resetting = false) : StepEffect s (ignoreStrobe s)
  | closes {u : State} (hb : StepBody s u) : StepEffect s (settle u)

/-- A row that a reset voids has its effect when it has one outside reset. -/
theorem unlessResetting_effect (s t : State) (h : s.resetting = false → StepEffect s t) :
    StepEffect s (unlessResetting s t) := by
  unfold unlessResetting
  split
  · exact .stays
  · exact h (Bool.eq_false_iff.mpr ‹_›)

theorem holdExpires_effect (s : State) (hr : s.resetting = false) : StepEffect s (holdExpires s) := by
  unfold holdExpires
  split
  · exact .stays
  · split
    · exact .closes (.expires hr _ ‹_›)
    · exact .stays

theorem tick_effect (s : State) : StepEffect s (tick s) := by
  refine unlessResetting_effect s _ fun hr => ?_
  split
  · exact .stays
  · unfold tickTimer
    (repeat' split)
    · exact .stays
    · exact .counts hr _ (by simp [*])
    · exact holdExpires_effect s hr
    · exact .counts hr _ (by simp [*])

theorem giveCommand_effect (s : State) (cmd : Command) (hr : s.resetting = false) :
    StepEffect s (giveCommand s cmd) := by
  unfold giveCommand
  split
  · split
    · exact .closes (.begins hr _ _ ‹_› (by simp_all))
    · exact .stays
  · split
    · exact .stays
    · exact .closes (.takesStrobe hr cmd (Bool.eq_false_iff.mpr ‹_›))

theorem seeStrobe_effect (s : State) (high : Bool) (edge : State) (hr : s.resetting = false)
    (h : StepEffect s edge) : StepEffect s (seeStrobe s high edge) := by
  obtain ⟨-, -, he⟩ | ⟨-, he⟩ := seeStrobe_cases s high edge
  · rw [he]
    exact h
  · rw [he]
    exact .sees hr high

theorem risingEdge_effect (s : State) (code : BitVec 3) (hr : s.resetting = false) :
    StepEffect s (risingEdge s code) := by
  unfold risingEdge
  split
  · exact .ignores hr
  · exact .closes (.takesStrobe hr _ (Bool.eq_false_iff.mpr ‹_›))

theorem waitingBegins_effect (s : State) (hr : s.resetting = false) : StepEffect s (waitingBegins s) := by
  unfold waitingBegins
  (repeat' split)
  · exact .closes (.begins hr _ _ ‹_› ‹_›)
  · exact .stays
  · exact .stays

theorem memoryCycleComplete_effect (s t : State) (h : exec .memoryCycleComplete s = .next t) :
    StepEffect s t := by
  obtain rfl : unlessResetting s _ = t := Host.Outcome.next.inj h
  refine unlessResetting_effect s _ fun hr => ?_
  split
  · exact .closes (.ends hr _ ‹_›)
  · exact .stays

/-- Each of the rows from APPEND_COMPLETE on is the end of the memory cycle in flight, or nothing. -/
theorem cycleRow_effect (c : Instr) (s t : State)
    (hc : (CycleNamed c s → exec c s = exec .memoryCycleComplete s) ∧ (¬CycleNamed c s → exec c s = .next s))
    (h : exec c s = .next t) : StepEffect s t := by
  by_cases hn : CycleNamed c s
  · exact memoryCycleComplete_effect s t (hc.1 hn ▸ h)
  · obtain rfl : s = t := Host.Outcome.next.inj ((hc.2 hn).symm.trans h)
    exact .stays

theorem exec_effect (c : Instr) (s t : State) (h : exec c s = .next t) : StepEffect s t := by
  cases c
  case appendComplete => exact cycleRow_effect _ s t (exec_appendComplete_named s) h
  case restoreRecordRead => exact cycleRow_effect _ s t (exec_restoreRecordRead_named s) h
  case restoreStepComplete => exact cycleRow_effect _ s t (exec_restoreStepComplete_named s) h
  case scanEnd => exact cycleRow_effect _ s t (exec_scanEnd_named s) h
  case voidMarkWritten => exact cycleRow_effect _ s t (exec_sequenceRow_named _ s (by simp)) h
  case headerSlotsRead => exact cycleRow_effect _ s t (exec_sequenceRow_named _ s (by simp)) h
  case epochAdvanceComplete => exact cycleRow_effect _ s t (exec_sequenceRow_named _ s (by simp)) h
  case configSlotReadComplete => exact cycleRow_effect _ s t (exec_sequenceRow_named _ s (by simp)) h
  case configSlotWriteComplete => exact cycleRow_effect _ s t (exec_sequenceRow_named _ s (by simp)) h
  case startupEnd => exact cycleRow_effect _ s t (exec_sequenceRow_named _ s (by simp)) h
  case statusUpdateComplete => exact cycleRow_effect _ s t (exec_sequenceRow_named _ s (by simp)) h
  case memoryCycleComplete => exact memoryCycleComplete_effect s t h
  all_goals obtain rfl := Host.Outcome.next.inj h
  case resetAssert => exact .resets
  case resetEnd msz pwarnHigh cstrbHigh =>
    split
    · exact .closes (.resetEnds msz pwarnHigh cstrbHigh ‹_›)
    · exact .stays
  case hostCycleRelease => exact .releases
  all_goals refine unlessResetting_effect s _ fun hr => ?_
  case powerWarningAssert =>
    split
    · exact .stays
    · exact .closes (.warns hr (Bool.eq_false_iff.mpr ‹_›))
  case powerWarningNegate =>
    split
    · exact .closes (.negates hr ‹_›)
    · exact .stays
  case hostRead addr =>
    split
    · exact .stays
    · exact .closes (.takes hr addr false 0 (Option.not_isSome_iff_eq_none.mp ‹_›))
  case hostWrite addr data =>
    split
    · exact .stays
    · exact .closes (.takes hr addr true data (Option.not_isSome_iff_eq_none.mp ‹_›))
  case holdExpired => exact holdExpires_effect s hr
  case strobeTaken lines => exact seeStrobe_effect s _ _ hr (risingEdge_effect s lines.code hr)
  case strobeIgnored =>
    refine seeStrobe_effect s _ _ hr ?_
    split
    · exact .ignores hr
    · exact .stays
  case commandExecutionBegin => exact waitingBegins_effect s hr
  case controlSequenceStart =>
    split
    · exact .closes (.starts hr _ _ ‹_› ‹_›)
    · exact .stays
  all_goals exact giveCommand_effect s _ hr

/-- A step has the effect of a row, or of an idle cycle of CLK, on the state with some queue in place. -/
theorem step_effect (s t : State) (h : step s = .next t) : ∃ rest, StepEffect (s.setPending rest) t := by
  unfold step at h
  split at h
  · obtain rfl := Host.Outcome.next.inj h
    exact ⟨s.pending, tick_effect s⟩
  · exact ⟨_, exec_effect _ _ t h⟩

end Sys2Proof.Machine

namespace Sys2Proof

open Machine

/-- Settles O16, by the row: the guard of each is the naming of its cycle, and its effect is that of the
claimant's rule for that cycle. -/
theorem cycleRowsAreTheEndOfTheCycle : Obligations.CycleRowsAreTheEndOfTheCycle := by
  intro c s hc
  simp only [List.mem_cons, List.not_mem_nil, or_false] at hc
  obtain rfl | rfl | rfl | hseq | hseq | hseq | hseq | hseq | rfl | hseq | hseq := hc
  case inl => exact exec_appendComplete_named s
  case inr.inl => exact exec_restoreRecordRead_named s
  case inr.inr.inl => exact exec_restoreStepComplete_named s
  case inr.inr.inr.inr.inr.inr.inr.inr.inl => exact exec_scanEnd_named s
  all_goals exact exec_sequenceRow_named c s (by simp [hseq])

end Sys2Proof
end
section
/-! SUPPORT. The laws of the work in hand, kept together: `Sound` holds the laws of O12, O13 and O14, and this
part says how the shared operations keep them. -/

namespace Sys2Proof.Machine

variable {qs qf qt : Prop} {s t : State}

/-! ### What the laws of the work in hand speak of -/

/-- A frame with neither mark and no opening sequence: what the frame stack's law speaks of. -/
def Frame.bare (f : Frame) : Frame := { start := f.start, short := false, spill := false, opening := 0 }

/-- The items the laws of the work in hand speak of, with every other item at its value after reset. -/
def State.workPart (s : State) : State :=
  { State.reset with
    txn := { State.reset.txn with
      op := s.txn.op, frames := s.txn.frames.map Frame.bare, stage := s.txn.stage, endState := s.txn.endState }
    journal := { State.reset.journal with
      n := s.journal.n, epoch := s.journal.epoch, geometry := s.journal.geometry, append := s.journal.append }
    tracker := s.tracker
    engine := s.engine
    port := { State.reset.port with
      inFlight := s.port.inFlight, claimControl := s.port.claimControl, claimEngine := s.port.claimEngine }
    control := s.control
    command := { State.reset.command with busy := s.command.busy, inFlight := s.command.inFlight }
    status := { State.reset.status with
      snapReads := s.status.snapReads, snapshot := s.status.snapshot, liveBegun := s.status.liveBegun,
      areaBegun := s.status.areaBegun }
    config := { State.reset.config with readWaits := s.config.readWaits, progress := s.config.progress } }

theorem workLaw_workPart (s : State) : WorkLaw s.workPart ↔ WorkLaw s :=
  ⟨fun ⟨a, b, c, d, e, f, g, h, i, j, k, l, m, n, o, p, q⟩ => ⟨a, b, c, d, e, f, g, h, i, j, k, l, m, n, o, p, q⟩,
   fun ⟨a, b, c, d, e, f, g, h, i, j, k, l, m, n, o, p, q⟩ => ⟨a, b, c, d, e, f, g, h, i, j, k, l, m, n, o, p, q⟩⟩

theorem engineLaw_workPart (s : State) : EngineLaw s.workPart ↔ EngineLaw s :=
  ⟨fun ⟨a, b, c, d, e⟩ => ⟨a, b, c, d, e⟩, fun ⟨a, b, c, d, e⟩ => ⟨a, b, c, d, e⟩⟩

theorem sequenceLaw_workPart (s : State) : SequenceLaw s.workPart ↔ SequenceLaw s :=
  ⟨fun ⟨a, b, c, d, e, f, g, h⟩ => ⟨a, b, c, d, e, f, g, h⟩,
   fun ⟨a, b, c, d, e, f, g, h⟩ => ⟨a, b, c, d, e, f, g, h⟩⟩

theorem frameLaw_workPart (s : State) : FrameLaw s.workPart ↔ FrameLaw s := by
  constructor
  · rintro ⟨a, b, c, d, e, f, g, h⟩
    refine ⟨by simpa [State.workPart] using a, ?_, ?_, ?_, ?_, ?_, g, ?_⟩
    · simpa [State.workPart, List.pairwise_map, Frame.bare] using b
    · simpa [State.workPart, Frame.bare] using c
    · simpa [State.workPart] using d
    · simpa [State.workPart] using e
    · simpa [State.workPart, Frame.bare] using f
    · simpa [State.workPart] using h
  · rintro ⟨a, b, c, d, e, f, g, h⟩
    refine ⟨by simpa [State.workPart] using a, ?_, ?_, ?_, ?_, ?_, g, ?_⟩
    · simpa [State.workPart, List.pairwise_map, Frame.bare] using b
    · simpa [State.workPart, Frame.bare] using c
    · simpa [State.workPart] using d
    · simpa [State.workPart] using e
    · simpa [State.workPart, Frame.bare] using f
    · simpa [State.workPart] using h

@[simp] theorem startAt_workPart (s : State) (d : Nat) : s.workPart.startAt d = s.startAt d := by
  simp only [State.startAt, State.workPart, ← List.map_reverse, List.getElem?_map, Option.map_map]
  rfl

theorem trackerLaw_workPart (s : State) : TrackerLaw s.workPart ↔ TrackerLaw s := by
  have hdepth : s.workPart.depth = s.depth := by simp [State.depth, State.workPart]
  constructor
  · rintro ⟨a, b, c, d, e, f⟩
    exact ⟨a, b, by rw [hdepth] at c; exact c, by simp only [startAt_workPart] at d; exact d, e, f⟩
  · rintro ⟨a, b, c, d, e, f⟩
    exact ⟨a, b, by rw [hdepth]; exact c, by simp only [startAt_workPart]; exact d, e, f⟩

/-- The laws of the work in hand and of the restore engine, and with them, where they are asked for, those of the
sequence in progress (`qs`), of the frame stack (`qf`) and of the tracker (`qt`). -/
structure Sound (qs qf qt : Prop) (s : State) : Prop where
  work     : WorkLaw s
  engine   : EngineLaw s
  sequence : qs → SequenceLaw s
  frame    : qf → FrameLaw s
  tracker  : qf → qt → TrackerLaw s

/-- What agrees in those items is sound alike. -/
theorem Sound.of_workPart (h : Sound qs qf qt s) (he : t.workPart = s.workPart) : Sound qs qf qt t where
  work     := (workLaw_workPart t).mp (he ▸ (workLaw_workPart s).mpr h.work)
  engine   := (engineLaw_workPart t).mp (he ▸ (engineLaw_workPart s).mpr h.engine)
  sequence := fun q => (sequenceLaw_workPart t).mp (he ▸ (sequenceLaw_workPart s).mpr (h.sequence q))
  frame    := fun q => (frameLaw_workPart t).mp (he ▸ (frameLaw_workPart s).mpr (h.frame q))
  tracker  := fun q q' => (trackerLaw_workPart t).mp (he ▸ (trackerLaw_workPart s).mpr (h.tracker q q'))

@[simp] theorem workPart_setMem (s : State) (x : Memory) : (s.setMem x).workPart = s.workPart := rfl
@[simp] theorem workPart_setHost (s : State) (x : HostPort) : (s.setHost x).workPart = s.workPart := rfl
@[simp] theorem workPart_setDecoder (s : State) (x : Decoder) : (s.setDecoder x).workPart = s.workPart := rfl
@[simp] theorem workPart_setWarning (s : State) (x : Bool) : (s.setWarning x).workPart = s.workPart := rfl
@[simp] theorem workPart_setResetting (s : State) (x : Bool) : (s.setResetting x).workPart = s.workPart := rfl
@[simp] theorem workPart_setFree (s : State) (x : Nat) : (s.setFree x).workPart = s.workPart := rfl
@[simp] theorem workPart_setPending (s : State) (x : List Instr) : (s.setPending x).workPart = s.workPart := rfl
@[simp] theorem workPart_claimHost (s : State) : s.claimHost.workPart = s.workPart := rfl
@[simp] theorem workPart_withdrawHost (s : State) : s.withdrawHost.workPart = s.workPart := rfl

/-- The counters, the queue and the update-owed flag of the status unit are none of those items. -/
theorem workPart_setStatus (s : State) (x : Status) (h : x.snapReads = s.status.snapReads)
    (h' : x.snapshot = s.status.snapshot) (hl : x.liveBegun = s.status.liveBegun)
    (ha : x.areaBegun = s.status.areaBegun) : (s.setStatus x).workPart = s.workPart := by
  simp [State.workPart, *]

/-! ### Requests (R114) -/

theorem works_requestSequence (s : State) (k : Sequence) :
    (requestSequence s k).works = s.works ++ (if k.isUpdate then [] else [k]) := by
  rw [State.works, requestSequence_sequences, List.filter_append, State.works]
  cases h : k.isUpdate <;> simp [h]

@[simp] theorem running_requestSequence (s : State) (k : Sequence) :
    (requestSequence s k).running = s.running := by simp [State.running]

@[simp] theorem inFlightFor_requestSequence (s : State) (k : Sequence) (c : Claimant) :
    (requestSequence s k).inFlightFor c = s.inFlightFor c := by simp [State.inFlightFor]

/-- What a request of a sequence needs: that the sequence belongs to the operating state; for a piece of work
that nothing else is in hand and its command executes; for a command's update that its command has ended. -/
structure Requestable (s : State) (k : Sequence) : Prop where
  belongs : k.belongs s.txn.op = true
  alone   : k.isUpdate = false → s.works = [] ∧ s.running = false ∧ s.config.readWaits = false
  worked  : k.isUpdate = false → s.txn.op.isStartup = false → s.txn.stage = .executing
  opened  : k.isUpdate = false → s.txn.op.isStartup = true → s.txn.endState = none
  ended   : k = .update .command → (∃ r, s.txn.stage = .ended r) ∧ k ∉ s.sequences
  inner   : k = .voidMark → 2 ≤ s.engine.target.level

theorem requestable_update (s : State) (k : UpdateKind) (h : k ≠ .command) : Requestable s (.update k) where
  belongs := rfl
  alone   := nofun
  worked  := nofun
  opened  := nofun
  ended   := fun he => absurd (Sequence.update.inj he) h
  inner   := nofun

/-- With no sequence in progress the control unit neither claims nor has a cycle in flight. -/
theorem WorkLaw.control_idle (h : WorkLaw s) (hc : s.control.current = none) :
    s.port.claimControl = false ∧ s.inFlightFor .control = false := by
  have := h.controlCycle
  simp only [hc, Option.isSome_none, Bool.false_eq_true, imp_false, not_or, Bool.not_eq_true] at this
  exact this

theorem requestSequence_current (s : State) (k : Sequence) :
    (requestSequence s k).control.current.isSome = (s.control.current.isSome || s.control.waiting.isEmpty) := by
  unfold requestSequence
  cases hc : s.control.current <;> cases hw : s.control.waiting <;> simp [beginSequence_spec, hc]

theorem requestSequence_claimControl (s : State) (k : Sequence) :
    (requestSequence s k).port.claimControl =
      (s.port.claimControl || (s.control.current.isNone && s.control.waiting.isEmpty)) := by
  unfold requestSequence
  split <;> simp_all [beginSequence_spec]

theorem WorkLaw.request (h : WorkLaw s) (k : Sequence) (hk : Requestable s k) :
    WorkLaw (requestSequence s k) where
  oneWork := by
    rw [works_requestSequence]
    cases hu : k.isUpdate
    · simp [(hk.alone hu).1]
    · simpa using h.oneWork
  belongs := by
    intro x hx
    rw [requestSequence_sequences, List.mem_append, List.mem_singleton] at hx
    rw [requestSequence_txn]
    exact hx.elim (h.belongs x) (fun he => he ▸ hk.belongs)
  runAlone := by
    rw [running_requestSequence, works_requestSequence]
    intro hr
    cases hu : k.isUpdate
    · simp [(hk.alone hu).2.1] at hr
    · simp [h.runAlone hr]
  runWhere := by simpa using h.runWhere
  inExecution := by
    rw [requestSequence_txn, running_requestSequence, works_requestSequence]
    intro hop hw
    cases hu : k.isUpdate
    · exact hk.worked hu hop
    · exact h.inExecution hop (by simpa [hu] using hw)
  stageInFlight := by simpa using h.stageInFlight
  flightIsBusy := by simpa using h.flightIsBusy
  startupQuiet := by simpa using h.startupQuiet
  updateEnded := by
    rw [requestSequence_sequences, requestSequence_txn, List.mem_append, List.mem_singleton]
    rintro (hm | he)
    · exact h.updateEnded hm
    · exact (hk.ended he.symm).1
  oneUpdate := by
    rw [requestSequence_sequences, List.count_append]
    by_cases he : k = .update .command
    · subst he
      simp [List.count_eq_zero_of_not_mem (hk.ended rfl).2]
    · simpa [List.count_singleton, he] using h.oneUpdate
  endDecided := by
    rw [requestSequence_txn, running_requestSequence, works_requestSequence]
    intro hop he
    cases hu : k.isUpdate
    · simp [hk.opened hu hop] at he
    · simpa using h.endDecided hop he
  engineCycle := by simpa using h.engineCycle
  engineOnce := by simpa using h.engineOnce
  controlCycle := by
    rw [requestSequence_current, requestSequence_claimControl, inFlightFor_requestSequence]
    have := h.controlCycle
    simp only [Bool.or_eq_true, Bool.and_eq_true, List.isEmpty_iff]
    tauto
  controlOnce := by
    rw [requestSequence_claimControl, inFlightFor_requestSequence]
    intro hf
    have hc := h.controlCycle (.inr hf)
    simp [h.controlOnce hf, Option.isSome_iff_ne_none.mp hc]
  stagedRead := by
    rw [requestSequence_config_readWaits, requestSequence_txn, running_requestSequence, works_requestSequence]
    intro hr
    cases hu : k.isUpdate
    · simp [(hk.alone hu).2.2] at hr
    · simpa using h.stagedRead hr
  appendReady := by simpa using h.appendReady

theorem EngineLaw.request (h : EngineLaw s) (k : Sequence) : EngineLaw (requestSequence s k) where
  idleCursor   := by simpa using h.idleCursor
  runCursor    := by simpa using h.runCursor
  faultStopped := by simpa using h.faultStopped
  endStopped   := by simpa using h.endStopped
  stoppedOnly  := by simpa using h.stoppedOnly

/-- A sequence that begins has the values its rule gives it (R114, R146, R155, R175). -/
theorem sequenceLaw_beginSequence (s : State) (k : Sequence) : SequenceLaw (beginSequence s k) where
  claimed    := fun _ => .inl (beginSequence_spec s k).2.2.2
  slot       := by cases k <;> simp [beginSequence, prepareSequence, State.claimControl]
  headerRead := by cases k <;> simp [beginSequence, prepareSequence, State.claimControl]
  scan       := by cases k <;> simp [beginSequence, prepareSequence, State.claimControl, epochLow]
  snapReads  := by
    cases k <;> simp [beginSequence, prepareSequence, State.claimControl]
    exact (em _).symm
  snapshot   := by
    cases k <;> simp [beginSequence, prepareSequence, State.claimControl]
    cases s.status.snapshot <;> simp
  live       := by cases k <;> simp [beginSequence, prepareSequence, State.claimControl]
  area       := by cases k <;> simp [beginSequence, prepareSequence, State.claimControl]

/-- The sequence in progress does not feel a change of those that wait. -/
theorem SequenceLaw.setWaiting (h : SequenceLaw s) (l : List Sequence) :
    SequenceLaw (s.setControl { s.control with waiting := l }) :=
  ⟨h.claimed, h.slot, h.headerRead, h.scan, h.snapReads, h.snapshot, h.live, h.area⟩

theorem SequenceLaw.request (h : SequenceLaw s) (k : Sequence) : SequenceLaw (requestSequence s k) := by
  unfold requestSequence
  split
  · exact sequenceLaw_beginSequence s k
  · exact h.setWaiting _

theorem FrameLaw.request (h : FrameLaw s) (k : Sequence) (hk : k = .voidMark → 2 ≤ s.engine.target.level) :
    FrameLaw (requestSequence s k) where
  atMostEight := by simpa using h.atMostEight
  ordered     := by simpa using h.ordered
  belowN      := by simpa using h.belowN
  frameless   := by simpa using h.frameless
  committing  := by simpa using h.committing
  innerAbort  := by simpa using h.innerAbort
  voidMark    := by
    rw [requestSequence_sequences, List.mem_append, List.mem_singleton, requestSequence_engine]
    exact fun hm => hm.elim h.voidMark (fun he => hk he.symm)
  appendAtN   := by simpa using h.appendAtN

theorem TrackerLaw.request (h : TrackerLaw s) (k : Sequence) : TrackerLaw (requestSequence s k) where
  atMost64 := by simpa using h.atMost64
  distinct := by simpa using h.distinct
  depths   := by simpa [State.depth] using h.depths
  indexes  := by simpa [State.startAt] using h.indexes
  missed   := by simpa using h.missed
  restored := by simpa using h.restored

/-- A request of a sequence that may be requested keeps every law. -/
theorem Sound.request (h : Sound qs qf qt s) (k : Sequence) (hk : Requestable s k) :
    Sound qs qf qt (requestSequence s k) where
  work     := h.work.request k hk
  engine   := h.engine.request k
  sequence := fun q => (h.sequence q).request k
  frame    := fun q => (h.frame q).request k hk.inner
  tracker  := fun q q' => (h.tracker q q').request k

/-! ### Raises (R144) -/

theorem Sound.requestRaiseUpdate (h : Sound qs qf qt s) : Sound qs qf qt (requestRaiseUpdate s) := by
  unfold Machine.requestRaiseUpdate
  (repeat' split)
  · exact h
  · exact h
  · refine Sound.request ?_ _ (requestable_update _ .raise nofun)
    exact h.of_workPart (workPart_setStatus s _ rfl rfl rfl rfl)

theorem Sound.updateForRaise (h : Sound qs qf qt s) : Sound qs qf qt (updateForRaise s) := by
  unfold Machine.updateForRaise
  split
  · exact h
  · exact h.requestRaiseUpdate

theorem Sound.updateForNegation (h : Sound qs qf qt s) : Sound qs qf qt (updateForNegation s) := by
  unfold Machine.updateForNegation
  split
  · exact h
  · exact h.requestRaiseUpdate

/-- A raise changes of the status unit the queue and the dropped counter alone. -/
theorem takeRaise_update (st : Status) (k : EventKind) (d : EventDetail) (a : Option Nat) :
    takeRaise st k d a =
      { st with queue := (takeRaise st k d a).queue, dropped := (takeRaise st k d a).dropped } := by
  unfold takeRaise
  (repeat' split) <;> rfl

theorem Sound.raiseEvent (h : Sound qs qf qt s) (k : EventKind) (d : EventDetail) (a : Option Nat) :
    Sound qs qf qt (raiseEvent s k d a) := by
  refine Sound.updateForRaise (h.of_workPart ?_)
  rw [takeRaise_update]
  exact workPart_setStatus s _ rfl rfl rfl rfl

/-! ### The end of a host cycle (R68, R87) -/

/-- A mark changes no frame's start index. -/
theorem map_bare_markTopShort (fs : List Frame) : (markTopShort fs).map Frame.bare = fs.map Frame.bare := by
  cases fs <;> rfl

theorem map_bare_markTopSpill (fs : List Frame) : (markTopSpill fs).map Frame.bare = fs.map Frame.bare := by
  cases fs <;> rfl

@[simp] theorem workPart_markShort (s : State) : (markShort s).workPart = s.workPart := by
  unfold markShort
  split
  · rfl
  · simp [State.workPart, map_bare_markTopShort]

/-- A host cycle that ends asks for the staged slot's read that waited for it, whose ADOPT executes (R161). -/
theorem Sound.releaseStagedRead (h : Sound qs qf qt s) : Sound qs qf qt (releaseStagedRead s) := by
  unfold Machine.releaseStagedRead
  split
  case isFalse => exact h
  case isTrue hw =>
    obtain ⟨hop, hstage, hworks, hrun⟩ := h.work.stagedRead hw
    have hq : Sound qs qf qt (s.setConfig { s.config with readWaits := false }) := by
      refine ⟨?_, ?_, fun q => ?_, fun q => ?_, fun q q' => ?_⟩
      · exact { h.work with stagedRead := nofun }
      · exact { h.engine with }
      · exact { h.sequence q with }
      · exact { h.frame q with }
      · exact { h.tracker q q' with }
    refine hq.request _ ⟨by simp [Sequence.belongs, hop], fun _ => ⟨hworks, hrun, rfl⟩, fun _ _ => hstage,
      fun _ hst => ?_, nofun, nofun⟩
    simp [hop, OpState.isStartup] at hst

theorem Sound.endNormally (h : Sound qs qf qt s) (b : Byte) : Sound qs qf qt (endNormally s b) := by
  unfold Machine.endNormally
  split
  · exact h
  · exact Sound.releaseStagedRead (h.of_workPart rfl)

theorem Sound.endWithFault (h : Sound qs qf qt s) : Sound qs qf qt (endWithFault s) := by
  unfold Machine.endWithFault
  (repeat' split)
  · exact h
  · exact Sound.releaseStagedRead (h.of_workPart rfl)
  · exact Sound.releaseStagedRead (h.of_workPart rfl)

theorem Sound.faultInStartup (h : Sound qs qf qt s) : Sound qs qf qt (faultInStartup s) :=
  Sound.endWithFault (h.of_workPart (workPart_setStatus s _ rfl rfl rfl rfl))

theorem Sound.raiseRefusal (h : Sound qs qf qt s) (r : WriteReason) (a : Addr) :
    Sound qs qf qt (raiseRefusal s r a) := by
  unfold Machine.raiseRefusal
  split
  · exact h.raiseEvent _ _ _
  · exact h.raiseEvent _ _ _

theorem Sound.refuseWrite (h : Sound qs qf qt s) (r : WriteReason) : Sound qs qf qt (refuseWrite s r) := by
  unfold Machine.refuseWrite
  split
  · exact h
  · exact Sound.endWithFault (Sound.of_workPart (h.raiseRefusal r _)
      ((workPart_markShort _).trans (workPart_setStatus _ _ rfl rfl rfl rfl)))

theorem Sound.expireCycle (h : Sound qs qf qt s) : Sound qs qf qt (expireCycle s) := by
  unfold Machine.expireCycle
  split
  · exact h
  · split
    · exact h.faultInStartup
    · refine Sound.endWithFault ?_
      have hcount : Sound qs qf qt (s.setStatus { s.status with expired := sat16 s.status.expired }) :=
        h.of_workPart (workPart_setStatus s _ rfl rfl rfl rfl)
      split
      · exact (hcount.raiseEvent _ _ _).of_workPart (workPart_markShort _)
      · exact hcount.raiseEvent _ _ _

/-! ### Judgements (R66) -/

@[simp] theorem workPart_claimPass (s : State) : (claimPass s).workPart = s.workPart := by
  unfold claimPass
  split <;> rfl

@[simp] theorem workPart_holdCycle (s : State) (x : HoldCause) : (holdCycle s x).workPart = s.workPart := by
  unfold holdCycle
  split <;> rfl

/-- An append is judged only for a write that misses the tracker in READY with a frame open (R16, R49). -/
theorem judge_append {c : HostCycle} (h : judge s c = .append) :
    s.txn.op = .ready ∧ 1 ≤ s.depth ∧ c.isWrite = true ∧
      ∃ mode g i, c.cls = .window mode g i ∧ mode ≠ .frozen ∧ trackerHit s.tracker g s.depth = false := by
  unfold judge judgeRead judgeWrite judgeWriteInStartup judgeWriteByClass judgeJournaled judgeUnframed
    judgeFramed at h
  (repeat' split at h) <;> simp_all
  omega

/-- An append that starts reserves position N for the top frame (R16). -/
theorem Sound.startAppend (h : Sound qs qf qt s) (hop : s.txn.op = .ready) (hd : 1 ≤ s.depth)
    (hmiss : ∀ c mode g i, s.host.cycle = some c → c.cls = .window mode g i →
      trackerHit s.tracker g s.depth = false) : Sound qs qf qt (startAppend s) := by
  unfold Machine.startAppend
  split
  case h_2 => exact h
  case h_1 addr w data mode g i x hc =>
    refine ⟨?_, ?_, fun q => ?_, fun q => ?_, fun q q' => ?_⟩
    · exact { h.work with appendReady := fun _ => hop }
    · exact { h.engine with }
    · exact { h.sequence q with }
    · exact { h.frame q with
        appendAtN := fun a ha => by
          obtain rfl := Option.some.inj ha
          exact ⟨rfl, rfl, hd⟩ }
    · exact { h.tracker q q' with
        missed := fun a ha => by
          obtain rfl := Option.some.inj ha
          exact hmiss _ mode g i hc rfl }

/-- A judgement that is the cycle's own keeps every law. -/
theorem Sound.applyJudge (h : Sound qs qf qt s) (c : HostCycle) (hc : s.host.cycle = some c) :
    Sound qs qf qt (applyJudgement s (judge s c)) := by
  cases hj : judge s c with
  | pass => exact h.of_workPart (workPart_claimPass s)
  | hold x => exact h.of_workPart (workPart_holdCycle s x)
  | fault r => exact h.refuseWrite r
  | startFault => exact h.faultInStartup
  | append =>
    obtain ⟨hop, hd, -, mode, g, i, hcls, -, hmiss⟩ := judge_append hj
    refine h.startAppend hop hd fun c' mode' g' i' hc' hcls' => ?_
    obtain rfl : c = c' := Option.some.inj (hc.symm.trans hc')
    obtain ⟨rfl, rfl, rfl⟩ : mode = mode' ∧ g = g' ∧ i = i' := by simpa [hcls] using hcls'
    exact hmiss

theorem Sound.takeCycle (h : Sound qs qf qt s) (addr : Addr) (w : Bool) (data : Byte) :
    Sound qs qf qt (takeCycle s addr w data) :=
  Sound.applyJudge (by exact h.of_workPart rfl) _ rfl

theorem Sound.rejudge (h : Sound qs qf qt s) (c : HostCycle) : Sound qs qf qt (rejudge s c) :=
  Sound.applyJudge (by exact h.of_workPart rfl) _ rfl

theorem Sound.releaseHeld (h : Sound qs qf qt s) : Sound qs qf qt (releaseHeld s) := by
  unfold Machine.releaseHeld
  (repeat' split)
  · exact h
  · exact h.rejudge _
  · exact h.rejudge _
  · exact h.of_workPart (workPart_claimPass s)
  · exact h.of_workPart (workPart_claimPass s)
  · exact h

@[simp] theorem workPart_releaseGranule (s : State) : (releaseGranule s).workPart = s.workPart := by
  unfold releaseGranule
  (repeat' split) <;> simp

@[simp] theorem workPart_startTimer (s : State) : (startTimer s).workPart = s.workPart := by
  unfold startTimer
  (repeat' split) <;> rfl

/-! ### Appends (R18, R19) -/

/-- An append that goes on, or is marked to be abandoned, keeps its place; one that is gone leaves none. -/
theorem Sound.setAppend (h : Sound qs qf qt s) (payload : List Byte) (x : Option Append)
    (hx : ∀ a, x = some a → ∃ a', s.journal.append = some a' ∧ a.index = a'.index ∧ a.depth = a'.depth ∧
      a.granule = a'.granule) :
    Sound qs qf qt (s.setJournal { s.journal with payload := payload, append := x }) := by
  have hsome : x.isSome = true → s.journal.append.isSome = true := fun hs => by
    obtain ⟨a, rfl⟩ := Option.isSome_iff_exists.mp hs
    obtain ⟨a', ha', -⟩ := hx a rfl
    simp [ha']
  refine ⟨?_, ?_, fun q => ?_, fun q => ?_, fun q q' => ?_⟩
  · exact { h.work with appendReady := fun hs => h.work.appendReady (hsome hs) }
  · exact { h.engine with }
  · exact { h.sequence q with }
  · exact { h.frame q with
      appendAtN := fun a ha => by
        obtain ⟨a', ha', hi, hd, -⟩ := hx a ha
        rw [hi, hd]
        exact (h.frame q).appendAtN a' ha' }
  · exact { h.tracker q q' with
      missed := fun a ha => by
        obtain ⟨a', ha', -, hd, hg⟩ := hx a ha
        rw [hd, hg]
        exact (h.tracker q q').missed a' ha' }

theorem Sound.abandonAppend (h : Sound qs qf qt s) (x : AbandonCause) :
    Sound qs qf qt (abandonAppend s x) := by
  have hgone : Sound qs qf qt (s.setJournal { s.journal with append := none }).withdrawHost :=
    (h.setAppend s.journal.payload none nofun).of_workPart rfl
  cases x with
  | power => exact hgone.refuseWrite .power
  | expiry => exact hgone.expireCycle

theorem Sound.abandonOn (h : Sound qs qf qt s) (a : Append) (ha : s.journal.append = some a)
    (x : AbandonCause) : Sound qs qf qt (abandonOn s a x) := by
  unfold Machine.abandonOn markAbandon
  (repeat' split)
  · exact h
  · exact h.setAppend s.journal.payload _ fun b hb =>
      ⟨a, ha, by obtain rfl := Option.some.inj hb; exact ⟨rfl, rfl, rfl⟩⟩
  · exact h.abandonAppend x

theorem Sound.appendGoesOn (h : Sound qs qf qt s) (a : Append) (ha : s.journal.append = some a) (b : Byte) :
    Sound qs qf qt (appendGoesOn s a b) := by
  unfold Machine.appendGoesOn
  simp only
  split
  · exact Sound.abandonAppend (h.setAppend _ s.journal.append fun a' ha' => ⟨a', ha', rfl, rfl, rfl⟩) _
  · exact (h.setAppend _ _ fun b hb =>
      ⟨a, ha, by obtain rfl := Option.some.inj hb; exact ⟨rfl, rfl, rfl⟩⟩).of_workPart rfl

/-! ### Hold expiry and the power warning (R81, R85) -/

theorem Sound.expireHold (h : Sound qs qf qt s) : Sound qs qf qt (expireHold s) := by
  unfold Machine.expireHold
  (repeat' split)
  · exact h
  · exact h
  · exact h
  · exact h.abandonOn _ ‹_› _
  · exact Sound.expireCycle (h.of_workPart rfl)
  all_goals exact h.expireCycle

theorem Sound.faultForPower (h : Sound qs qf qt s) : Sound qs qf qt (faultForPower s) := by
  unfold Machine.faultForPower
  split
  · exact h.faultInStartup
  · exact h.refuseWrite _

theorem Sound.hostOnWarning (h : Sound qs qf qt s) : Sound qs qf qt (hostOnWarning s) := by
  unfold Machine.hostOnWarning writeUnderWarning
  (repeat' split)
  · exact h
  · exact h
  · exact h.abandonOn _ ‹_› _
  · exact Sound.faultForPower (h.of_workPart rfl)
  · exact h.faultForPower
  all_goals exact h

end Sys2Proof.Machine
end

section
/-! SUPPORT. The laws of the work in hand along the courses of the transaction controller. -/

namespace Sys2Proof.Machine

variable {qs qf qt : Prop} {s t : State}

/-! ### Where one piece of work gives way to the next -/

/-- No piece of work is in hand: what was has just ended, or its command has just begun. Outside STARTUP its
command executes, and in STARTUP the end state is still open. -/
structure HandsFree (s : State) : Prop where
  works     : s.works = []
  noRun     : s.running = false
  noRead    : s.config.readWaits = false
  executing : s.txn.op.isStartup = false → s.txn.stage = .executing
  undecided : s.txn.op.isStartup = true → s.txn.endState = none

theorem HandsFree.requestable (h : HandsFree s) (k : Sequence) (hb : k.belongs s.txn.op = true)
    (hu : k.isUpdate = false) (hv : k = .voidMark → 2 ≤ s.engine.target.level) : Requestable s k where
  belongs := hb
  alone   := fun _ => ⟨h.works, h.noRun, h.noRead⟩
  worked  := fun _ => h.executing
  opened  := fun _ => h.undecided
  ended   := fun he => by simp [he, Sequence.isUpdate] at hu
  inner   := hv

/-- With no piece of work in hand every sequence is a status update. -/
theorem isUpdate_of_works_nil (h : s.works = []) {k : Sequence} (hk : k ∈ s.sequences) :
    k.isUpdate = true := by
  simpa using List.filter_eq_nil_iff.mp h k hk

theorem HandsFree.of_eq (h : HandsFree s) (hworks : t.works = s.works) (hrun : t.running = s.running)
    (hread : t.config.readWaits = s.config.readWaits) (htxn : t.txn = s.txn) : HandsFree t :=
  ⟨hworks ▸ h.works, hrun ▸ h.noRun, hread ▸ h.noRead, htxn ▸ h.executing, htxn ▸ h.undecided⟩

theorem HandsFree.setJournal (h : HandsFree s) (x : Journal) : HandsFree (s.setJournal x) :=
  ⟨h.works, h.noRun, h.noRead, h.executing, h.undecided⟩

theorem HandsFree.requestUpdate (h : HandsFree s) (k : UpdateKind) :
    HandsFree (requestSequence s (.update k)) :=
  h.of_eq (by simp [works_requestSequence, Sequence.isUpdate]) (by simp) (by simp) (by simp)

@[simp] theorem works_raiseEvent (s : State) (k : EventKind) (d : EventDetail) (a : Option Nat) :
    (raiseEvent s k d a).works = s.works := by
  rw [State.works]
  obtain hs | hs := raiseEvent_sequences s k d a <;> simp [hs, State.works, Sequence.isUpdate]

@[simp] theorem running_raiseEvent (s : State) (k : EventKind) (d : EventDetail) (a : Option Nat) :
    (raiseEvent s k d a).running = s.running := by simp [State.running]

theorem HandsFree.raiseEvent (h : HandsFree s) (k : EventKind) (d : EventDetail) (a : Option Nat) :
    HandsFree (raiseEvent s k d a) :=
  h.of_eq (by simp) (by simp) (by simp) (by simp)

/-- An append stands in READY alone. -/
theorem WorkLaw.no_append (h : WorkLaw s) (hop : s.txn.op ≠ .ready) : s.journal.append = none :=
  Option.not_isSome_iff_eq_none.mp fun ha => hop (h.appendReady ha)

/-- With no piece of work in hand the operating state may change, but for the end of STARTUP. -/
theorem WorkLaw.setTxn (h : WorkLaw s) (hf : HandsFree s) (x : Controller) (hstage : x.stage = s.txn.stage)
    (hop : x.op.isStartup = s.txn.op.isStartup) (happ : s.journal.append.isSome = true → x.op = .ready) :
    WorkLaw (s.setTxn x) := by
  have hworks : (s.setTxn x).works = [] := hf.works
  have hrun : (s.setTxn x).running = false := hf.noRun
  exact {
    oneWork := h.oneWork
    belongs := fun k hk => by
      have hu := isUpdate_of_works_nil hf.works hk
      cases k <;> simp_all [Sequence.isUpdate, Sequence.belongs]
    runAlone := fun _ => hworks
    runWhere := fun hr => by simp [hrun] at hr
    inExecution := fun _ hw => by simp [hworks, hrun] at hw
    stageInFlight := by simpa [hstage] using h.stageInFlight
    flightIsBusy := h.flightIsBusy
    startupQuiet := by simpa [hstage, hop] using h.startupQuiet
    updateEnded := by simpa [hstage] using h.updateEnded
    oneUpdate := h.oneUpdate
    endDecided := fun _ _ => ⟨hworks, hrun⟩
    engineCycle := h.engineCycle
    engineOnce := h.engineOnce
    controlCycle := h.controlCycle
    controlOnce := h.controlOnce
    stagedRead := fun hr => absurd hr (by simp [hf.noRead])
    appendReady := happ }

/-- With no sequence in progress there is nothing for its law to say. -/
theorem sequenceLaw_of_idle (h : s.control.current = none) : SequenceLaw s := by
  constructor <;> simp [h]

theorem SequenceLaw.setTxn (h : SequenceLaw s) (x : Controller) : SequenceLaw (s.setTxn x) := { h with }

/-! ### The end of a command's execution (R126, R128) -/

/-- The command that executes has its update neither in progress nor waiting. -/
theorem WorkLaw.update_notMem (h : WorkLaw s) (hstage : ∀ r, s.txn.stage ≠ .ended r) :
    Sequence.update .command ∉ s.sequences := fun hm => by
  obtain ⟨r, hr⟩ := h.updateEnded hm
  exact hstage r hr

/-- An execution that ends outside STARTUP, with no piece of work in hand, keeps every law. -/
theorem Sound.endExecution (h : Sound qs qf qt s) (hf : HandsFree s) (hop : s.txn.op.isStartup = false)
    (r : Result) (d : ResultDetail) : Sound qs qf qt (endExecution s r d) := by
  unfold Machine.endExecution
  split
  · exact h
  case h_2 cmd q hflight =>
    have hstage := hf.executing hop
    have hnot : Sequence.update .command ∉ s.sequences := h.work.update_notMem (by simp [hstage])
    refine Sound.request ?_ _ ⟨rfl, nofun, nofun, nofun, fun _ => ⟨⟨_, rfl⟩, hnot⟩, nofun⟩
    refine ⟨?_, ?_, fun q => ?_, fun q => ?_, fun q q' => ?_⟩
    · exact { h.work with
        inExecution := fun _ hw => by
          change s.works ≠ [] ∨ s.running = true at hw
          simp [hf.works, hf.noRun] at hw
        stageInFlight := fun _ => by simp [hflight]
        startupQuiet := fun hst => absurd hst (by simp [hop])
        updateEnded := fun hm => absurd hm hnot
        stagedRead := fun hr => absurd hr (by simp [hf.noRead]) }
    · exact { h.engine with }
    · exact { h.sequence q with }
    · exact { h.frame q with }
    · exact { h.tracker q q' with }

/-! ### Epoch advances (R13 to R15) -/

/-- Where an epoch advance is asked for. -/
def OpState.advances : OpState → Bool
  | .committing | .aborting | .faulted | .setup | .startup .closing => true
  | _ => false

theorem Sound.requestAdvance (h : Sound qs qf qt s) (hf : HandsFree s) (hop : s.txn.op.advances = true) :
    Sound qs qf qt (requestAdvance s) := by
  unfold Machine.requestAdvance headerAfter
  (repeat' split) <;> refine h.request _ (hf.requestable _ ?_ rfl nofun)
  all_goals
    cases hs : s.txn.op <;> simp_all [OpState.advances, Sequence.belongs, OpState.isStartup]
  all_goals split at hop <;> simp_all

/-! ### CLOSING (R178, R179) -/

/-- In STARTUP with the end state open the engine is not STOPPED. -/
theorem EngineLaw.not_stopped (h : EngineLaw s) (hop : s.txn.op ≠ .faulted)
    (he : s.txn.op.isStartup = true → s.txn.endState = none) : s.engine.run ≠ .stopped := fun hr => by
  obtain hfault | ⟨hst, hend⟩ := h.stoppedOnly hr
  · exact hop hfault
  · simp [he hst] at hend

/-- With no piece of work in hand, the phase of start-up may change and its end be decided. -/
theorem Sound.setStartup (h : Sound qs qf qt s) (hf : HandsFree s) (hop : s.txn.op.isStartup = true)
    (x : Controller) (hstage : x.stage = s.txn.stage) (hframes : x.frames = s.txn.frames)
    (hop' : x.op.isStartup = true) (he : x.endState = some .faulted ↔ s.engine.run = .stopped) :
    Sound qs qf qt (s.setTxn x) := by
  have hne : s.txn.op ≠ .ready := fun h' => by simp [h', OpState.isStartup] at hop
  have happ := h.work.no_append hne
  have hx : ∃ p, x.op = .startup p := by
    cases hx : x.op <;> simp_all [OpState.isStartup]
  obtain ⟨p, hp⟩ := hx
  refine ⟨h.work.setTxn hf x hstage (hop'.trans hop.symm) (by simp [happ]), ?_,
    fun q => (h.sequence q).setTxn x, fun q => ?_, fun q q' => ?_⟩
  · exact {
      idleCursor := h.engine.idleCursor
      runCursor := fun hr => h.engine.runCursor hr
      faultStopped := fun hf' => by simp [hp] at hf'
      endStopped := fun _ hs => he.mp hs
      stoppedOnly := fun hs => .inr ⟨hop', he.mpr hs⟩ }
  · have hnil : s.txn.frames = [] := (h.frame q).frameless (by cases hs : s.txn.op <;> simp_all [OpState.isStartup, OpState.frameless])
    exact {
      atMostEight := by simp [hframes, hnil]
      ordered := by simp [hframes, hnil]
      belowN := by simp [hframes, hnil]
      frameless := by simp [hframes, hnil]
      committing := by simp [hp]
      innerAbort := by simp [hp]
      voidMark := (h.frame q).voidMark
      appendAtN := by simp [happ] }
  · exact { h.tracker q q' with
      depths := by simpa [State.depth, hframes] using (h.tracker q q').depths
      indexes := by simpa [State.startAt, hframes] using (h.tracker q q').indexes
      restored := by simp [hp] }

theorem Sound.closingEnds (h : Sound qs qf qt s) (hf : HandsFree s) (hop : s.txn.op.isStartup = true) :
    Sound qs qf qt (closingEnds s) := by
  unfold Machine.closingEnds
  simp only
  generalize (if s.txn.headerWritten then StartOutcome.restored else .clean) = o
  refine Sound.request ?_ _ (requestable_update _ .final nofun)
  have hstop : s.engine.run ≠ .stopped :=
    h.engine.not_stopped (by rintro h'; simp [h', OpState.isStartup] at hop) hf.undecided
  exact (h.raiseEvent _ _ _).setStartup (hf.raiseEvent _ _ _) (by simpa using hop) _ rfl rfl (by simpa using hop)
    (by simp [hstop])

theorem HandsFree.setTxn (h : HandsFree s) (x : Controller) (hstage : x.stage = s.txn.stage)
    (hop : x.op.isStartup = s.txn.op.isStartup) (he : x.endState = s.txn.endState) :
    HandsFree (s.setTxn x) :=
  ⟨h.works, h.noRun, h.noRead, by simpa [hstage, hop] using h.executing, by simpa [he, hop] using h.undecided⟩

theorem Sound.enterClosing (h : Sound qs qf qt s) (hf : HandsFree s) (hop : s.txn.op.isStartup = true) :
    Sound qs qf qt (enterClosing s) := by
  have hstop : s.engine.run ≠ .stopped :=
    h.engine.not_stopped (by rintro h'; simp [h', OpState.isStartup] at hop) hf.undecided
  have hclosing := h.setStartup hf hop { s.txn with op := .startup .closing } rfl rfl rfl
    (by simp [hstop, hf.undecided hop])
  have hfree := hf.setTxn { s.txn with op := .startup .closing } rfl (by rw [hop]; rfl) rfl
  have hupdate := hclosing.request _ (requestable_update _ .progress nofun)
  have hfree' := hfree.requestUpdate .progress
  unfold Machine.enterClosing
  simp only
  split
  · refine Sound.requestAdvance (hupdate.setStartup hfree' ?_ _ rfl rfl ?_ ?_) (hfree'.setTxn _ rfl rfl rfl) ?_
    · simp [OpState.isStartup]
    · simp [OpState.isStartup]
    · simp [hstop, hf.undecided hop]
    · simp [OpState.advances]
  · exact hupdate.closingEnds hfree' (by simp [OpState.isStartup])

/-! ### Restore runs (R91, R98) -/

/-- Where a run begins, goes on or ends: no piece of work stands besides it, and the engine neither claims nor has
a cycle in flight. -/
structure RunPlace (s : State) : Prop where
  works     : s.works = []
  place     : s.txn.op = .aborting ∨ s.txn.op = .startup .restoring
  noRead    : s.config.readWaits = false
  executing : s.txn.op.isStartup = false → s.txn.stage = .executing
  undecided : s.txn.op.isStartup = true → s.txn.endState = none
  noClaim   : s.port.claimEngine = false
  noFlight  : s.inFlightFor .engine = false

theorem RunPlace.not_faulted (h : RunPlace s) : s.txn.op ≠ .faulted := by
  rcases h.place with hp | hp <;> simp [hp]

theorem RunPlace.no_append (h : RunPlace s) (hw : WorkLaw s) : s.journal.append = none :=
  hw.no_append (by rcases h.place with hp | hp <;> simp [hp])

/-- A run that stands between two of its cycles is at such a place. -/
theorem Sound.runPlace (h : Sound qs qf qt s) (hrun : s.running = true) (hclaim : s.port.claimEngine = false)
    (hflight : s.inFlightFor .engine = false) : RunPlace s where
  works     := h.work.runAlone hrun
  place     := h.work.runWhere hrun
  noRead    := by
    by_contra hr
    have := (h.work.stagedRead (by simpa using hr)).2.2.2
    simp [hrun] at this
  executing := fun hop => h.work.inExecution hop (.inr hrun)
  undecided := fun hop => by
    by_contra he
    have := (h.work.endDecided hop (Option.isSome_iff_ne_none.mpr he)).2
    simp [hrun] at this
  noClaim   := hclaim
  noFlight  := hflight

/-- The cursor of a run stands between its stopping position and N (R90). -/
def State.CursorPlaced (s : State) : Prop := ∃ p, s.engine.cursor = some p ∧ s.engine.stop ≤ p ∧ p < s.journal.n

/-- The tracker holds no entry of a position the run has passed (R55). -/
def State.TrackerRestored (s : State) : Prop :=
  s.txn.op = .aborting → ∀ e ∈ s.tracker, s.engine.stop ≤ e.index → ∀ p, s.engine.cursor = some p → e.index ≤ p

/-- A run state other than IDLE and STOPPED is that of a run in progress (R90). -/
theorem engineLaw_running (hr : s.running = true) (hp : RunPlace s) (hc : s.CursorPlaced) : EngineLaw s := by
  have hrun : s.engine.run ≠ .idle ∧ s.engine.run ≠ .stopped := by
    constructor <;> intro hx <;> simp [State.running, hx] at hr
  exact {
    idleCursor := fun hx => absurd hx hrun.1
    runCursor := fun _ => hc
    faultStopped := fun hx => absurd hx hp.not_faulted
    endStopped := fun hst hx => by simp [hp.undecided hst] at hx
    stoppedOnly := fun hx => absurd hx hrun.2 }

/-- The laws of the work in hand hold of a run, claimed or suspended. -/
theorem WorkLaw.setRunning (h : WorkLaw s) (hr : RunPlace s) (x : Engine) (c : Bool)
    (hx : x.run = .running ∨ (x.run = .suspended ∧ c = false)) :
    WorkLaw ((s.setEngine x).setPort { s.port with claimEngine := c }) := by
  have hflight : ((s.setEngine x).setPort { s.port with claimEngine := c }).inFlightFor .engine = false :=
    hr.noFlight
  exact { h with
    runAlone := fun _ => hr.works
    runWhere := fun _ => hr.place
    inExecution := fun hop _ => hr.executing hop
    endDecided := fun hop he => by
      change s.txn.op.isStartup = true at hop
      change s.txn.endState.isSome = true at he
      simp [hr.undecided hop] at he
    engineCycle := by
      rw [hflight]
      rintro (hc | hc)
      · exact hx.resolve_right (fun ⟨_, hc'⟩ => by simp_all)
      · simp at hc
    engineOnce := fun hf => by simp [hflight] at hf
    stagedRead := fun hw => absurd hw (by simp [hr.noRead]) }

/-- The engine goes on with a run, claiming its next cycle, or is suspended (R102). -/
theorem Sound.engineGoesOn (hw : WorkLaw s) (hr : RunPlace s) (hc : s.CursorPlaced)
    (hq : qs → SequenceLaw s) (hf : qf → FrameLaw s) (ht : qf → qt → TrackerLaw s ∧ s.TrackerRestored) :
    Sound qs qf qt (engineGoesOn s) := by
  have hport : s.port = { s.port with claimEngine := false } := by rw [← hr.noClaim]
  unfold Machine.engineGoesOn
  split
  · refine ⟨?_, engineLaw_running rfl ⟨hr.1, hr.2, hr.3, hr.4, hr.5, hr.6, hr.7⟩ hc, fun q => { hq q with },
      fun q => { hf q with }, fun q q' => { (ht q q').1 with restored := fun _ => (ht q q').2 }⟩
    have := hw.setRunning hr { s.engine with run := .suspended } false (.inr ⟨rfl, rfl⟩)
    rwa [← hport] at this
  · have hwork := hw.setRunning hr { s.engine with run := .running } true (.inl rfl)
    refine ⟨hwork, ?_, fun q => { hq q with }, fun q => { hf q with },
      fun q q' => { (ht q q').1 with restored := fun _ => (ht q q').2 }⟩
    have := engineLaw_running (s := s.setEngine { s.engine with run := .running }) rfl
      ⟨hr.1, hr.2, hr.3, hr.4, hr.5, hr.6, hr.7⟩ hc
    exact { this with }

/-- A new state for the engine that is no run keeps the laws of the work, where it neither claims nor has a
cycle in flight. -/
theorem WorkLaw.setEngine (h : WorkLaw s) (x : Engine) (hx : x.run = .idle ∨ x.run = .stopped)
    (hclaim : s.port.claimEngine = false) (hflight : s.inFlightFor .engine = false) :
    WorkLaw (s.setEngine x) := by
  have hrun : (s.setEngine x).running = false := by rcases hx with hx | hx <;> simp [State.running, hx]
  exact { h with
    runAlone := fun hr => by simp [hrun] at hr
    runWhere := fun hr => by simp [hrun] at hr
    inExecution := fun hop hw => h.inExecution hop (.inl (hw.resolve_right (by simp [hrun])))
    endDecided := fun hop he => ⟨(h.endDecided hop he).1, hrun⟩
    engineCycle := fun hc => by
      rcases hc with hc | hc
      · exact absurd hc (by simp [hclaim])
      · exact absurd (hflight ▸ hc : false = true) nofun
    stagedRead := fun hw => by
      obtain ⟨hop, hstage, hworks, -⟩ := h.stagedRead hw
      exact ⟨hop, hstage, hworks, hrun⟩ }

/-! ### The end of an inner abort (R22, R37, R56) -/

/-- A frame's start index does not depend on the frames above it. -/
theorem startAt_of_frames_cons (f : Frame) (hf : s.txn.frames = f :: t.txn.frames) {d : Nat} (hd : 1 ≤ d)
    (hd' : d ≤ t.depth) : s.startAt d = t.startAt d := by
  have hlt : d - 1 < t.txn.frames.reverse.length := by
    simp only [List.length_reverse]
    exact Nat.lt_of_lt_of_le (by omega) hd'
  simp [State.startAt, hf, List.getElem?_append_left hlt]

theorem Sound.innerAbortEnds (h : Sound qs qf qt s) (hf : HandsFree s) (hop : s.txn.op = .aborting)
    (hlevel : qf → 2 ≤ s.engine.target.level) : Sound qs qf qt (innerAbortEnds s) := by
  have happ := h.work.no_append (by simp [hop])
  have hstop := h.engine.not_stopped (by simp [hop]) hf.undecided
  have hready : Sound qs qf qt ((s.setTracker (trackerRemoveDepth s.tracker s.engine.target.level)).setTxn
      { s.txn with frames := s.txn.frames.tail, op := .ready }) := by
    have hwork : WorkLaw (s.setTxn { s.txn with frames := s.txn.frames.tail, op := .ready }) :=
      h.work.setTxn hf _ rfl (by rw [hop]; rfl) (by simp [happ])
    refine ⟨{ hwork with }, ?_, fun q => { h.sequence q with }, fun q => ?_, fun q q' => ?_⟩
    · exact { h.engine with
        faultStopped := by simp
        endStopped := by simp [OpState.isStartup]
        stoppedOnly := fun hx => absurd hx hstop }
    all_goals
      have hframe := h.frame q
      have hlevel' := hlevel q
      obtain ⟨hlen, hhead⟩ := hframe.innerAbort hop hlevel'
      obtain ⟨f, rest, hfs⟩ := List.exists_cons_of_length_pos (l := s.txn.frames) (by omega)
    · have hord := hframe.ordered
      have hbelow := hframe.belowN
      have height := hframe.atMostEight
      rw [hfs] at hord hbelow height
      exact {
        atMostEight := by simp [hfs] at height ⊢; omega
        ordered := by simpa [hfs] using hord.tail
        belowN := by simpa [hfs] using fun g hg => hbelow g (List.mem_cons_of_mem f hg)
        frameless := by simp [OpState.frameless]
        committing := by simp
        innerAbort := by simp
        voidMark := hframe.voidMark
        appendAtN := by simp [happ] }
    · have htracker := h.tracker q q'
      have hkept : ∀ e ∈ trackerRemoveDepth s.tracker s.engine.target.level,
          e ∈ s.tracker ∧ 1 ≤ e.depth ∧ e.depth ≤ rest.length := fun e he => by
        obtain ⟨hmem, hne⟩ : e ∈ s.tracker ∧ e.depth ≠ s.engine.target.level := by
          simpa [trackerRemoveDepth] using he
        obtain ⟨hlow, hhigh⟩ := htracker.depths e hmem
        simp only [State.depth, hfs, List.length_cons] at hhigh hlen
        exact ⟨hmem, hlow, by omega⟩
      exact {
        atMost64 := (List.length_filter_le _ _).trans htracker.atMost64
        distinct := htracker.distinct.sublist ((List.filter_sublist).map _)
        depths := fun e he => by
          obtain ⟨-, hlow, hhigh⟩ := hkept e he
          exact ⟨hlow, by simpa [State.depth, hfs] using hhigh⟩
        indexes := fun e he => by
          obtain ⟨hmem, hlow, hhigh⟩ := hkept e he
          rw [← startAt_of_frames_cons (s := s) f (by simp [hfs]) hlow
            (by simpa [State.depth, hfs] using hhigh)]
          exact htracker.indexes e hmem
        missed := by simp [happ]
        restored := by simp }
  have hfree : HandsFree ((s.setTracker (trackerRemoveDepth s.tracker s.engine.target.level)).setTxn
      { s.txn with frames := s.txn.frames.tail, op := .ready }) :=
    ⟨hf.works, hf.noRun, hf.noRead, fun _ => hf.executing (by rw [hop]; rfl), nofun⟩
  exact (hready.endExecution hfree rfl _ _).releaseHeld

theorem Sound.truncateJournal (h : Sound qs qf qt s) (hf : HandsFree s) (hop : s.txn.op = .aborting)
    (hlevel : 2 ≤ s.engine.target.level)
    (hgone : s.engine.count ≠ 0 → qf → qt → ∀ e ∈ s.tracker, e.index < s.engine.stop) :
    Sound qs qf qt (truncateJournal s) := by
  unfold Machine.truncateJournal
  split
  · exact h.innerAbortEnds hf hop fun _ => hlevel
  case isFalse hcount =>
    have happ := h.work.no_append (by simp [hop])
    refine Sound.request ?_ _ ((hf.setJournal _).requestable _ (by simp [Sequence.belongs, hop]) rfl fun _ => hlevel)
    refine ⟨{ h.work with }, ?_, fun q => { h.sequence q with }, fun q => ?_, fun q q' => ?_⟩
    · exact { h.engine with
        runCursor := fun hr => by
          have : s.running = true := hr
          simp [hf.noRun] at this }
    · have hframe := h.frame q
      obtain ⟨hlen, hhead⟩ := hframe.innerAbort hop hlevel
      obtain ⟨f, rest, hfs⟩ := List.exists_cons_of_length_pos (l := s.txn.frames) (by omega)
      have hstop : s.engine.stop = f.start := hhead f (by simp [hfs])
      exact { hframe with
        belowN := fun g hg => by
          have hord := hframe.ordered
          rw [hfs] at hord
          replace hg : g = f ∨ g ∈ rest := by simpa [hfs] using hg
          show g.start ≤ s.engine.stop
          rw [hstop]
          exact hg.elim (fun he => he ▸ Nat.le_refl _) (List.rel_of_pairwise_cons hord)
        appendAtN := by simp [happ] }
    · exact { h.tracker q q' with
        indexes := fun e he => ⟨((h.tracker q q').indexes e he).1, hgone hcount q q' e he⟩
        missed := by simp [happ] }

/-- A run ends, and its abort or start-up goes on (R98). -/
theorem Sound.runEnds (hw : WorkLaw s) (hr : RunPlace s) (hq : qs → SequenceLaw s) (hf : qf → FrameLaw s)
    (ht : qf → qt → TrackerLaw s)
    (hgone : s.engine.count ≠ 0 → qf → qt → ∀ e ∈ s.tracker, e.index < s.engine.stop) :
    Sound qs qf qt (runEnds s) := by
  have hsound : Sound qs qf qt (s.setEngine { s.engine with run := .idle, cursor := none }) := by
    refine ⟨hw.setEngine _ (.inl rfl) hr.noClaim hr.noFlight, ?_, fun q => { hq q with }, fun q => { hf q with },
      fun q q' => { ht q q' with restored := by simp [State.running] }⟩
    exact {
      idleCursor := fun _ => rfl
      runCursor := by simp [State.running]
      faultStopped := fun hx => absurd hx hr.not_faulted
      endStopped := fun hst hx => by
        change s.txn.op.isStartup = true at hst
        simp [hr.undecided hst] at hx
      stoppedOnly := by simp }
  have hfree : HandsFree (s.setEngine { s.engine with run := .idle, cursor := none }) :=
    ⟨hr.works, rfl, hr.noRead, hr.executing, hr.undecided⟩
  unfold Machine.runEnds
  rcases hr.place with hop | hop
  · simp only [State.setEngine_txn, hop]
    split
    · exact hsound.truncateJournal hfree hop ‹_› hgone
    · exact hsound.requestAdvance hfree (by simp [hop, OpState.advances])
  · simp only [State.setEngine_txn, hop]
    exact hsound.enterClosing hfree (by simp [hop, OpState.isStartup])

end Sys2Proof.Machine
end

section
/-! SUPPORT. The laws of the work in hand along restore runs and the eight commands. -/

namespace Sys2Proof.Machine

variable {qs qf qt : Prop} {s t : State}

/-! ### The start of a run (R91) -/

theorem run_of_not_running (h : s.running = false) : s.engine.run = .idle ∨ s.engine.run = .stopped := by
  cases hr : s.engine.run <;> simp_all [State.running]

/-- With no run in progress the engine neither claims nor has a cycle in flight. -/
theorem WorkLaw.engine_quiet (h : WorkLaw s) (hr : s.running = false) :
    s.port.claimEngine = false ∧ s.inFlightFor .engine = false := by
  have hne : s.engine.run ≠ .running := fun hx => by simp [State.running, hx] at hr
  have := mt h.engineCycle hne
  simpa using this

/-- A run is started on the records below `n`, or ends at once. -/
theorem Sound.startRun (hw : WorkLaw s) (hr : RunPlace s) (hrun : s.running = false) (n stop : Nat)
    (target : Target) (hn : n ≤ s.journal.n) (hq : qs → SequenceLaw s)
    (hf : qf → FrameLaw (s.setEngine { s.engine with
      stop := stop, target := target, count := 0, reason := none, reads := 0, writes := 0 }))
    (ht : qf → qt → TrackerLaw s ∧ ∀ e ∈ s.tracker, e.index < n) :
    Sound qs qf qt (startRun s n stop target) := by
  have hplace : ∀ x : Engine, RunPlace (s.setEngine x) := fun x =>
    ⟨hr.works, hr.place, hr.noRead, hr.executing, hr.undecided, hr.noClaim, hr.noFlight⟩
  have hwork : ∀ x : Engine, x.run = s.engine.run → WorkLaw (s.setEngine x) := fun x hx =>
    hw.setEngine x (hx ▸ run_of_not_running hrun) hr.noClaim hr.noFlight
  have htracker : ∀ x : Engine, x.run = s.engine.run → qf → qt → TrackerLaw (s.setEngine x) :=
    fun x hx q q' => { (ht q q').1 with
      restored := fun hx' => by
        have : s.running = true := by simpa [State.running, hx] using hx'
        simp [hrun] at this }
  unfold Machine.startRun
  simp only
  split
  · exact Sound.runEnds (hwork _ rfl) (hplace _) (fun q => { hq q with }) hf (htracker _ rfl)
      fun hc => absurd rfl hc
  case isFalse hlt =>
    refine Sound.engineGoesOn (hwork _ rfl) (hplace _) ⟨n - 1, rfl, ?_, ?_⟩ (fun q => { hq q with })
      (fun q => { hf q with }) fun q q' => ⟨htracker _ rfl q q', fun _ e he _ p hp => ?_⟩
    · simp
      omega
    · simp
      omega
    · have hlt' := (ht q q').2 e he
      simp at hp
      omega

/-- The pending marks change no granule, depth or index, so they keep the tracker's law (R57). -/
theorem TrackerLaw.mark (h : TrackerLaw s) (d : Nat) :
    TrackerLaw (s.setTracker (trackerMark s.tracker d)) := by
  have hmem : ∀ e ∈ trackerMark s.tracker d, ∃ e' ∈ s.tracker, e.granule = e'.granule ∧ e.depth = e'.depth ∧
      e.index = e'.index := fun e he => by
    obtain ⟨e', he', rfl⟩ := List.mem_map.mp he
    exact ⟨e', he', rfl, rfl, rfl⟩
  exact {
    atMost64 := by simpa [trackerMark] using h.atMost64
    distinct := by simpa [trackerMark, Function.comp_def] using h.distinct
    depths := fun e he => by
      obtain ⟨e', he', -, hd, -⟩ := hmem e he
      exact hd ▸ h.depths e' he'
    indexes := fun e he => by
      obtain ⟨e', he', -, hd, hi⟩ := hmem e he
      rw [hd, hi]
      exact h.indexes e' he'
    missed := fun a ha => by simpa [trackerMark, trackerHit] using h.missed a ha
    restored := fun hr hop e he hs p hp => by
      obtain ⟨e', he', -, -, hi⟩ := hmem e he
      rw [hi] at hs ⊢
      exact h.restored hr hop e' he' hs p hp }

/-- ABORTING is entered from READY or FAULTED, with the top frame's start as the stopping position of an inner
abort (R35, R40). -/
theorem Sound.enterAborting (h : Sound qs qf qt s) (hf : HandsFree s) (target stop : Nat)
    (hop : s.txn.op = .ready ∨ s.txn.op = .faulted) (happ : s.journal.append = none)
    (hinner : 2 ≤ target → target = s.txn.frames.length ∧ ∀ f, s.txn.frames.head? = some f → stop = f.start) :
    Sound qs qf qt (enterAborting s target stop) := by
  have hst : s.txn.op.isStartup = false := by rcases hop with hop | hop <;> rw [hop] <;> rfl
  obtain ⟨hclaim, hflight⟩ := h.work.engine_quiet hf.noRun
  unfold Machine.enterAborting
  have hwork : WorkLaw (s.setTxn { s.txn with op := .aborting }) :=
    h.work.setTxn hf _ rfl (by rw [hst]; rfl) (by simp [happ])
  refine Sound.startRun (s := (s.setTxn { s.txn with op := .aborting }).setTracker (trackerMark s.tracker target))
    { hwork with } ⟨hf.works, .inl rfl, hf.noRead, fun _ => hf.executing hst, nofun, hclaim,
    hflight⟩ hf.noRun _ _ _ (Nat.le_refl _) (fun q => { h.sequence q with }) (fun q => ?_) fun q q' => ⟨?_, ?_⟩
  · exact { h.frame q with
      frameless := by simp [OpState.frameless]
      committing := by simp
      innerAbort := fun _ => hinner
      voidMark := fun hm => by simpa [Sequence.isUpdate] using isUpdate_of_works_nil hf.works hm
      appendAtN := by simp [happ] }
  · exact { (h.tracker q q').mark target with
      restored := fun hr => by
        have : s.running = true := hr
        simp [hf.noRun] at this }
  · exact fun e he => (((h.tracker q q').mark target).indexes e he).2

/-! ### The restore engine's cycles (R92 to R96, R105) -/

theorem WorkLaw.setEngine_of_run (h : WorkLaw s) (x : Engine) (hrun : x.run = s.engine.run) :
    WorkLaw (s.setEngine x) := by
  have hr : (s.setEngine x).running = s.running := by simp [State.running, hrun]
  exact { h with
    runAlone := fun hx => h.runAlone (hr ▸ hx)
    runWhere := fun hx => h.runWhere (hr ▸ hx)
    inExecution := fun hop hx => h.inExecution hop (hr ▸ hx)
    endDecided := fun hop he => hr ▸ h.endDecided hop he
    engineCycle := fun hx => hrun.trans (h.engineCycle hx)
    stagedRead := fun hx => hr ▸ h.stagedRead hx }

theorem FrameLaw.setEngine (h : FrameLaw s) (x : Engine) (hstop : x.stop = s.engine.stop)
    (htarget : x.target = s.engine.target) : FrameLaw (s.setEngine x) :=
  { h with
    innerAbort := by simpa [htarget, hstop] using h.innerAbort
    voidMark := fun hm => by simpa [htarget] using h.voidMark hm }

/-- The engine's buffer and progress are none of what the laws speak of. -/
theorem Sound.setProgress (h : Sound qs qf qt s) (x : Engine) (hrun : x.run = s.engine.run)
    (hcursor : x.cursor = s.engine.cursor) (hstop : x.stop = s.engine.stop) (htarget : x.target = s.engine.target) :
    Sound qs qf qt (s.setEngine x) := by
  have hr : (s.setEngine x).running = s.running := by simp [State.running, hrun]
  refine ⟨h.work.setEngine_of_run x hrun, ?_, fun q => { h.sequence q with },
    fun q => (h.frame q).setEngine x hstop htarget, fun q q' => ?_⟩
  · exact {
      idleCursor := by simpa [hrun, hcursor] using h.engine.idleCursor
      runCursor := by simpa [hr, hcursor, hstop] using h.engine.runCursor
      faultStopped := by simpa [hrun] using h.engine.faultStopped
      endStopped := by simpa [hrun] using h.engine.endStopped
      stoppedOnly := by simpa [hrun] using h.engine.stoppedOnly }
  · exact { h.tracker q q' with
      restored := by simpa [hr, hstop, hcursor] using (h.tracker q q').restored }

/-- A run in progress between two of its cycles goes on. -/
theorem Sound.runGoesOn (h : Sound qs qf qt s) (hrun : s.running = true) (hclaim : s.port.claimEngine = false)
    (hflight : s.inFlightFor .engine = false) : Sound qs qf qt (Machine.engineGoesOn s) :=
  Sound.engineGoesOn h.work (h.runPlace hrun hclaim hflight) (h.engine.runCursor hrun) h.sequence h.frame
    fun q q' => ⟨h.tracker q q', (h.tracker q q').restored hrun⟩

theorem requestSequence_setEngine (s : State) (x : Engine) (k : Sequence) :
    requestSequence (s.setEngine x) k = (requestSequence s k).setEngine x := by
  have hcontrol : (s.setEngine x).control = s.control := rfl
  unfold requestSequence
  by_cases h : (s.control.current.isNone && s.control.waiting.isEmpty) = true
  · rw [if_pos (hcontrol ▸ h), if_pos h]
    cases k <;> rfl
  · rw [if_neg (hcontrol ▸ h), if_neg h]
    rfl

theorem requestRaiseUpdate_setEngine (s : State) (x : Engine) :
    requestRaiseUpdate (s.setEngine x) = (requestRaiseUpdate s).setEngine x := by
  have hcarries : (s.setEngine x).commandCarries = s.commandCarries := rfl
  have howed : (s.setEngine x).status.owed = s.status.owed := rfl
  unfold requestRaiseUpdate
  by_cases hc : s.commandCarries = true
  · rw [if_pos (hcarries ▸ hc), if_pos hc]
  rw [if_neg (hcarries ▸ hc), if_neg hc]
  by_cases ho : s.status.owed = true
  · rw [if_pos (howed ▸ ho), if_pos ho]
  · rw [if_neg (howed ▸ ho), if_neg ho]
    exact requestSequence_setEngine (s.setStatus { s.status with owed := true }) x _

/-- A raise neither reads nor changes the restore engine. -/
theorem raiseEvent_setEngine (s : State) (x : Engine) (k : EventKind) (d : EventDetail) (a : Option Nat) :
    raiseEvent (s.setEngine x) k d a = (raiseEvent s k d a).setEngine x := by
  have hraised : (s.setEngine x).setStatus (takeRaise (s.setEngine x).status k d a) =
    (s.setStatus (takeRaise s.status k d a)).setEngine x := rfl
  unfold raiseEvent updateForRaise
  rw [hraised]
  generalize s.setStatus (takeRaise s.status k d a) = u
  have hcond : ((u.setEngine x).txn.op.isStartup && !(u.setEngine x).finalAreaBegun) =
    (u.txn.op.isStartup && !u.finalAreaBegun) := rfl
  by_cases h : (u.txn.op.isStartup && !u.finalAreaBegun) = true
  · rw [if_pos (hcond ▸ h), if_pos h]
  · rw [if_neg (hcond ▸ h), if_neg h, requestRaiseUpdate_setEngine]

/-- A run stops in FAULTED, or where start-up is to end there (R105, R106, R177). -/
theorem Sound.stop (h : Sound qs qf qt s) (hr : RunPlace s) (x : Engine) (hx : x.run = .stopped) (y : Controller)
    (hstage : y.stage = s.txn.stage) (hframes : y.frames = s.txn.frames)
    (hop : (s.txn.op = .aborting ∧ y.op = .faulted) ∨
      (s.txn.op = .startup .restoring ∧ y.op = .startup .restoring ∧ y.endState = some .faulted)) :
    Sound qs qf qt ((s.setEngine x).setTxn y) := by
  have happ := hr.no_append h.work
  have hidle : (s.setEngine x).running = false := by simp [State.running, hx]
  have hwork := (h.work.setEngine x (.inr hx) hr.noClaim hr.noFlight).setTxn
    ⟨hr.works, hidle, hr.noRead, hr.executing, hr.undecided⟩ y hstage
    (by rcases hop with ⟨h1, h2⟩ | ⟨h1, h2, -⟩ <;> rw [h2] <;> simp [h1, OpState.isStartup]) (by simp [happ])
  have hy : y.op = .faulted ∨ (y.op.isStartup = true ∧ y.endState = some .faulted) := by
    rcases hop with ⟨-, h2⟩ | ⟨-, h2, h3⟩
    · exact .inl h2
    · exact .inr ⟨by rw [h2]; rfl, h3⟩
  refine ⟨hwork, ?_, fun q => { h.sequence q with }, fun q => ?_, fun q q' => ?_⟩
  · exact {
      idleCursor := by simp [hx]
      runCursor := fun hrun => by
        have : (s.setEngine x).running = true := hrun
        simp [hidle] at this
      faultStopped := fun _ => hx
      endStopped := fun _ _ => hx
      stoppedOnly := fun _ => hy }
  · have hframe := h.frame q
    refine { hframe with
      atMostEight := by simpa [hframes] using hframe.atMostEight
      ordered := by simpa [hframes] using hframe.ordered
      belowN := by simpa [hframes] using hframe.belowN
      frameless := ?_
      committing := fun hc => ?_
      innerAbort := fun ha => ?_
      voidMark := fun hm => by simpa [Sequence.isUpdate] using isUpdate_of_works_nil hr.works hm
      appendAtN := by simp [happ] }
    · rcases hop with ⟨-, h2⟩ | ⟨h1, h2, -⟩
      · simp [h2, OpState.frameless]
      · simpa [h2, hframes, h1] using hframe.frameless
    all_goals rcases hop with ⟨-, h2⟩ | ⟨-, h2, -⟩ <;> simp_all
  · exact { h.tracker q q' with
      depths := by simpa [State.depth, hframes] using (h.tracker q q').depths
      indexes := by simpa [State.startAt, hframes] using (h.tracker q q').indexes
      restored := fun hrun => by
        have : (s.setEngine x).running = true := hrun
        simp [hidle] at this }

theorem RunPlace.raiseEvent (h : RunPlace s) (k : EventKind) (d : EventDetail) (a : Option Nat) :
    RunPlace (raiseEvent s k d a) :=
  ⟨by simpa using h.works, by simpa using h.place, by simpa using h.noRead, by simpa using h.executing,
    by simpa using h.undecided, by simpa using h.noClaim, by simpa [State.inFlightFor] using h.noFlight⟩

theorem Sound.restoreFault (h : Sound qs qf qt s) (hr : RunPlace s) (r : RestoreReason) (p : Nat) :
    Sound qs qf qt (restoreFault s r p) := by
  unfold Machine.restoreFault
  simp only [raiseEvent_setEngine]
  have hraise := h.raiseEvent .restoreFault (.restore r) (some p)
  have hplace := hr.raiseEvent .restoreFault (.restore r) (some p)
  have hop : (Machine.raiseEvent s .restoreFault (.restore r) (some p)).txn.op = s.txn.op := by simp
  generalize Machine.raiseEvent s .restoreFault (.restore r) (some p) = u at hraise hplace hop ⊢
  rcases hr.place with hs | hs
  · have hu := hraise.stop hplace { s.engine with run := .stopped, reason := some r, reads := 0, writes := 0 } rfl
      { u.txn with op := .faulted } rfl rfl (.inl ⟨hop.trans hs, rfl⟩)
    simp only [State.setEngine_txn, hop, hs]
    unfold abortFaults
    exact (hu.endExecution ⟨hplace.works, rfl, hplace.noRead, fun _ =>
      hplace.executing (by rw [hop, hs]; rfl), nofun⟩ rfl _ _).releaseHeld
  · have hu := hraise.stop hplace { s.engine with run := .stopped, reason := some r, reads := 0, writes := 0 } rfl
      { u.txn with endState := some .faulted } rfl rfl (.inr ⟨hop.trans hs, hop.trans hs, rfl⟩)
    simp only [State.setEngine_txn, hop, hs]
    unfold startupFaults
    exact (hu.raiseEvent _ _ _).request _ (requestable_update _ .final nofun)

theorem Sound.recordRead (h : Sound qs qf qt s) (hrun : s.running = true) (hclaim : s.port.claimEngine = false)
    (hflight : s.inFlightFor .engine = false) : Sound qs qf qt (recordRead s) := by
  unfold Machine.recordRead
  simp only
  split
  · exact h.restoreFault (h.runPlace hrun hclaim hflight) _ _
  · exact h.runGoesOn hrun hclaim hflight

/-- The removal of a position's entry keeps the tracker's law (R55). -/
theorem TrackerLaw.removeIndex (h : TrackerLaw s) (p : Nat) :
    TrackerLaw (s.setTracker (trackerRemoveIndex s.tracker p)) := by
  have hmem : ∀ e ∈ trackerRemoveIndex s.tracker p, e ∈ s.tracker := fun e he => (List.mem_filter.mp he).1
  exact {
    atMost64 := (List.length_filter_le _ _).trans h.atMost64
    distinct := h.distinct.sublist ((List.filter_sublist).map _)
    depths := fun e he => h.depths e (hmem e he)
    indexes := fun e he => h.indexes e (hmem e he)
    missed := fun a ha => by
      have := h.missed a ha
      simp only [trackerHit, List.any_eq_false] at this ⊢
      exact fun e he => this e (hmem e he)
    restored := fun hr hop e he => h.restored hr hop e (hmem e he) }

theorem Sound.removeIndex (h : Sound qs qf qt s) (p : Nat) :
    Sound qs qf qt (s.setTracker (trackerRemoveIndex s.tracker p)) :=
  ⟨{ h.work with }, { h.engine with }, fun q => { h.sequence q with }, fun q => { h.frame q with },
    fun q q' => (h.tracker q q').removeIndex p⟩

theorem Sound.stepCompletes (h : Sound qs qf qt s) (hrun : s.running = true)
    (hclaim : s.port.claimEngine = false) (hflight : s.inFlightFor .engine = false) :
    Sound qs qf qt (stepCompletes s) := by
  obtain ⟨p, hp, hstop, hlt⟩ := h.engine.runCursor hrun
  have hgone : ∀ e ∈ trackerRemoveIndex s.tracker p, e ∈ s.tracker ∧ e.index ≠ p := fun e he => by
    simpa [trackerRemoveIndex] using he
  unfold Machine.stepCompletes
  simp only [hp, Option.getD_some]
  have hremoved : Sound qs qf qt (releaseGranule (s.setTracker (trackerRemoveIndex s.tracker p))) :=
    (h.removeIndex p).of_workPart (workPart_releaseGranule _)
  have hstep := hremoved.setProgress { s.engine with
    lastLink := halfAt s.engine.buffer 6, count := s.engine.count + 1, reads := 0, writes := 0 }
    (by simp) (by simp) (by simp) (by simp)
  have hplace := hstep.runPlace hrun (by simpa using hclaim) (by simpa [State.inFlightFor] using hflight)
  simp only [releaseGranule_engine, State.setTracker_engine]
  split
  case isTrue heq =>
    refine Sound.runEnds hstep.work hplace hstep.sequence hstep.frame hstep.tracker fun _ q q' e he => ?_
    obtain ⟨hmem, hne⟩ := hgone e (by simpa using he)
    by_contra hge
    rcases hplace.place with hop | hop
    · have hge' : s.engine.stop ≤ e.index := by simpa using hge
      have := (h.tracker q q').restored hrun (by simpa using hop) e hmem hge' p hp
      have : p = s.engine.stop := by simpa using heq
      omega
    · have hnil := (h.frame q).frameless (by
        have hop' : s.txn.op = .startup .restoring := by simpa using hop
        rw [hop']
        rfl)
      have := (h.tracker q q').depths e hmem
      simp [State.depth, hnil] at this
      omega
  case isFalse hne =>
    refine Sound.engineGoesOn (hstep.work.setEngine_of_run _ rfl) ⟨hplace.works, hplace.place, hplace.noRead,
      hplace.executing, hplace.undecided, hplace.noClaim, hplace.noFlight⟩ ⟨p - 1, rfl, ?_, ?_⟩
      (fun q => { hstep.sequence q with }) (fun q => (hstep.frame q).setEngine _ rfl rfl) fun q q' => ?_
    · simp at hne ⊢
      omega
    · simp
      omega
    · have hbelow : s.txn.op = .aborting → ∀ e ∈ trackerRemoveIndex s.tracker p, s.engine.stop ≤ e.index →
          e.index ≤ p - 1 := fun hop e he hge => by
        obtain ⟨hmem, hne'⟩ := hgone e he
        have := (h.tracker q q').restored hrun hop e hmem hge p hp
        omega
      have hpassed : ∀ u : State, u.txn.op = s.txn.op → u.tracker = trackerRemoveIndex s.tracker p →
          u.engine.stop = s.engine.stop → u.engine.cursor = some (p - 1) → u.TrackerRestored :=
        fun u hop htr hst hcu ha e he hge p' hp' => by
          obtain rfl : p - 1 = p' := by simpa [hcu] using hp'
          exact hbelow (hop ▸ ha) e (htr ▸ he) (hst ▸ hge)
      exact ⟨{ hstep.tracker q q' with restored := fun _ => hpassed _ (by simp) (by simp) (by simp) rfl },
        hpassed _ (by simp) (by simp) (by simp) rfl⟩

theorem Sound.engineCycleEnds (h : Sound qs qf qt s) (hrun : s.running = true)
    (hclaim : s.port.claimEngine = false) (hflight : s.inFlightFor .engine = false) (b : Byte) :
    Sound qs qf qt (engineCycleEnds s b) := by
  have hkept : Sound qs qf qt (engineKeeps s b) := h.setProgress _ rfl rfl rfl rfl
  unfold Machine.engineCycleEnds
  (repeat' split)
  · exact hkept.recordRead hrun hclaim hflight
  · exact hkept.runGoesOn hrun hclaim hflight
  · exact h.stepCompletes hrun hclaim hflight
  · exact (h.setProgress { s.engine with writes := s.engine.writes + 1 } rfl rfl rfl rfl).runGoesOn hrun hclaim
      hflight

end Sys2Proof.Machine
end

section
/-! SUPPORT. The laws of the work in hand along the eight commands and the take of a strobe. -/

namespace Sys2Proof.Machine

variable {qs qf qt : Prop} {s t : State}

/-! ### Operating states that change with no work in hand -/

theorem workPart_setConfig (s : State) (x : ConfigUnit) (hr : x.readWaits = s.config.readWaits)
    (hp : x.progress = s.config.progress) : (s.setConfig x).workPart = s.workPart := by
  simp [State.workPart, hr, hp]

/-- With no open frame the tracker is empty. -/
theorem TrackerLaw.eq_nil (h : TrackerLaw s) (hframes : s.txn.frames = []) : s.tracker = [] := by
  refine List.eq_nil_iff_forall_not_mem.mpr fun e he => ?_
  have := h.depths e he
  simp [State.depth, hframes] at this
  omega

theorem trackerLaw_nil (h : s.tracker = []) : TrackerLaw s where
  atMost64 := by simp [h]
  distinct := by simp [h]
  depths := by simp [h]
  indexes := by simp [h]
  missed := by simp [h, trackerHit]
  restored := by simp [h]

/-- A frame stack that is ordered and within N keeps its law outside COMMITTING and ABORTING, with no work in
hand and no append. -/
theorem frameLaw_of_quiet (hop : s.txn.op ≠ .committing ∧ s.txn.op ≠ .aborting) (hworks : s.works = [])
    (happ : s.journal.append = none) (height : s.txn.frames.length ≤ 8)
    (hordered : s.txn.frames.Pairwise fun upper lower => lower.start ≤ upper.start)
    (hbelow : ∀ f ∈ s.txn.frames, f.start ≤ s.journal.n)
    (hframeless : s.txn.op.frameless = true → s.txn.frames = []) : FrameLaw s where
  atMostEight := height
  ordered := hordered
  belowN := hbelow
  frameless := hframeless
  committing := fun h => absurd h hop.1
  innerAbort := fun h => absurd h hop.2
  voidMark := fun hm => by simpa [Sequence.isUpdate] using isUpdate_of_works_nil hworks hm
  appendAtN := by simp [happ]

theorem frameLaw_nil (hop : s.txn.op ≠ .committing ∧ s.txn.op ≠ .aborting) (hworks : s.works = [])
    (happ : s.journal.append = none) (hframes : s.txn.frames = []) : FrameLaw s :=
  frameLaw_of_quiet hop hworks happ (by simp [hframes]) (by simp [hframes]) (by simp [hframes])
    fun _ => hframes

/-- The operating state changes outside STARTUP with no work in hand, to FAULTED exactly where the engine is
STOPPED. -/
theorem Sound.setOp {qf' qt' : Prop} (h : Sound qs qf' qt' s) (hf : HandsFree s)
    (happ : s.journal.append = none) (x : Controller) (hstage : x.stage = s.txn.stage)
    (hop : s.txn.op.isStartup = false) (hop' : x.op.isStartup = false)
    (hfault : x.op = .faulted ↔ s.engine.run = .stopped) (hframe : qf → FrameLaw (s.setTxn x))
    (htracker : qf → qt → TrackerLaw (s.setTxn x)) : Sound qs qf qt (s.setTxn x) where
  work := h.work.setTxn hf x hstage (by rw [hop, hop']) (by simp [happ])
  engine := { h.engine with
    faultStopped := hfault.mp
    endStopped := by simp [hop']
    stoppedOnly := fun hx => .inl (hfault.mpr hx) }
  sequence := fun q => (h.sequence q).setTxn x
  frame := hframe
  tracker := htracker

/-! ### The eight commands -/

/-- What a command finds when its execution begins (R127): it is in execution outside STARTUP, with no other
work in hand and no append in flight. -/
structure CommandBegins (qs qf qt : Prop) (s : State) : Prop where
  sound    : Sound qs qf qt s
  free     : HandsFree s
  quiet    : s.txn.op.isStartup = false
  noAppend : s.journal.append = none

theorem CommandBegins.refuses (h : CommandBegins qs qf qt s) (r : Result) (d : ResultDetail) :
    Sound qs qf qt (endExecution s r d) := h.sound.endExecution h.free h.quiet r d

theorem CommandBegins.not_stopped (h : CommandBegins qs qf qt s) (hop : s.txn.op ≠ .faulted) :
    s.engine.run ≠ .stopped :=
  h.sound.engine.not_stopped hop h.free.undecided

/-- A command that changes the operating state among those of no fault, with the frames `x` gives. -/
theorem CommandBegins.setOp (h : CommandBegins qs qf qt s) (hop : s.txn.op ≠ .faulted) (x : Controller)
    (hstage : x.stage = s.txn.stage) (hop' : x.op.isStartup = false) (hne : x.op ≠ .faulted)
    (hframe : qf → FrameLaw (s.setTxn x)) (htracker : qf → qt → TrackerLaw (s.setTxn x)) :
    Sound qs qf qt (s.setTxn x) :=
  h.sound.setOp h.free h.noAppend x hstage h.quiet hop'
    ⟨fun hx => absurd hx hne, fun hx => absurd hx (h.not_stopped hop)⟩ hframe htracker

theorem Sound.runAcknowledge (h : CommandBegins qs qf qt s) : Sound qs qf qt (runAcknowledge s) := by
  unfold Machine.runAcknowledge
  split
  · exact h.refuses _ _
  case h_2 rest _ =>
    exact Sound.endExecution
      (s := s.setStatus { s.status with queue := rest, dropped := if rest.isEmpty then 0 else s.status.dropped })
      (h.sound.of_workPart (workPart_setStatus _ _ rfl rfl rfl rfl)) (h.free.of_eq rfl rfl rfl rfl) h.quiet _ _

theorem Sound.runBegin (h : CommandBegins qs qf qt s) (q : Half) : Sound qs qf qt (runBegin s q) := by
  unfold Machine.runBegin
  split
  case h_2 => exact h.refuses _ _
  case h_1 hop =>
  split
  case isFalse => exact h.refuses _ _
  case isTrue hdepth =>
  have hdepth' : s.txn.frames.length < 8 := hdepth
  let x : Controller := { s.txn with
    frames := { start := s.journal.n, short := false, spill := false, opening := q } :: s.txn.frames }
  refine Sound.endExecution (h.setOp (by simp [hop]) x rfl h.quiet (by simp [x, hop]) (fun qf' => ?_)
    fun qf' qt' => ?_) (h.free.setTxn x rfl rfl rfl) h.quiet _ _
  · have hframe := h.sound.frame qf'
    refine frameLaw_of_quiet (by simp [x, hop]) h.free.works h.noAppend ?_ ?_ ?_ ?_
    · simpa [x] using hdepth'
    · simpa [x] using ⟨hframe.belowN, hframe.ordered⟩
    · simpa [x] using hframe.belowN
    · simp [x, hop, OpState.frameless]
  · have htracker := h.sound.tracker qf' qt'
    exact { htracker with
      depths := fun e he => by
        obtain ⟨hlow, hhigh⟩ := htracker.depths e he
        exact ⟨hlow, by simp only [x, State.depth, State.setTxn_txn, List.length_cons] at hhigh ⊢; omega⟩
      indexes := fun e he => by
        obtain ⟨hlow, hhigh⟩ := htracker.depths e he
        rw [startAt_of_frames_cons (t := s) _ rfl hlow hhigh]
        exact htracker.indexes e he
      missed := by simp [h.noAppend]
      restored := by simp [x, hop] }

/-- The merge of the top depth keeps granule and depth pairs apart (R54). -/
theorem trackerMerge_distinct (l : List TrackerEntry) (d : Nat)
    (h : (l.map (fun e => (e.granule, e.depth))).Nodup) :
    ((trackerMerge l d).map (fun e => (e.granule, e.depth))).Nodup := by
  have hpair : l.Pairwise fun a b => (a.granule, a.depth) ≠ (b.granule, b.depth) := List.pairwise_map.mp h
  refine List.pairwise_map.mpr (List.pairwise_filterMap.mpr (hpair.imp_of_mem @?_))
  have hlowered : ∀ e x, mergeEntry l d e = some x → (e.depth ≠ d ∧ x = e) ∨
      (e.depth = d ∧ x = { e with depth := d - 1 } ∧ trackerHit l e.granule (d - 1) = false) := fun e x hx => by
    unfold mergeEntry at hx
    (repeat' split at hx) <;> simp_all
  have hkept : ∀ e e' : TrackerEntry, trackerHit l e.granule (d - 1) = false → e' ∈ l →
      (e.granule, d - 1) ≠ (e'.granule, e'.depth) := fun e e' hno he' heq => by
    obtain ⟨hg, hd⟩ := Prod.mk.injEq .. ▸ heq
    simp only [trackerHit, List.any_eq_false] at hno
    exact hno e' he' (by simp [hg, hd])
  intro a b ha hb hne x hx y hy
  rcases hlowered a x hx with ⟨hda, rfl⟩ | ⟨hda, rfl, hno⟩ <;>
    rcases hlowered b y hy with ⟨hdb, rfl⟩ | ⟨hdb, rfl, hno'⟩
  · exact hne
  · exact (hkept b x hno' ha).symm
  · exact hkept a y hno hb
  · simpa [hda, hdb] using hne

theorem startAt_congr (h : s.txn.frames.map Frame.start = t.txn.frames.map Frame.start) (d : Nat) :
    s.startAt d = t.startAt d := by
  have : ∀ u : State, u.startAt d = ((u.txn.frames.map Frame.start).reverse[d - 1]?).getD 0 := fun u => by
    simp only [State.startAt, ← List.map_reverse, List.getElem?_map]
  rw [this s, this t, h]

/-- The start index of the top frame. -/
theorem startAt_top (f : Frame) (rest : List Frame) (h : s.txn.frames = f :: rest) :
    s.startAt (rest.length + 1) = f.start := by
  simp [State.startAt, h]

/-- An inner COMMIT closes the top frame into the frame below (R30, R54). -/
theorem CommandBegins.merges (h : CommandBegins qs qf qt s) (hop : s.txn.op = .ready) (f below : Frame)
    (rest : List Frame) (hframes : s.txn.frames = f :: below :: rest) :
    Sound qs qf qt ((s.setTracker (trackerMerge s.tracker s.depth)).setTxn
      { s.txn with frames := below.carry f :: rest }) := by
  have hdepth : s.depth = rest.length + 2 := by simp [State.depth, hframes]
  have hmerged : CommandBegins qs False False (s.setTracker (trackerMerge s.tracker s.depth)) :=
    ⟨⟨{ h.sound.work with }, { h.sound.engine with }, fun q => { h.sound.sequence q with }, nofun, nofun⟩,
      h.free.of_eq rfl rfl rfl rfl, h.quiet, h.noAppend⟩
  refine hmerged.sound.setOp hmerged.free h.noAppend _ rfl h.quiet h.quiet
    ⟨fun hx => by simp [hop] at hx, fun hx => absurd hx (h.not_stopped (by simp [hop]))⟩ (fun q => ?_)
    fun q q' => ?_
  all_goals
    have hframe := h.sound.frame q
    have height := hframe.atMostEight
    have hordered := hframe.ordered
    have hbelow := hframe.belowN
    rw [hframes] at height hordered hbelow
  · have hstart : (below.carry f).start = below.start := rfl
    refine frameLaw_of_quiet (by simp [hop]) h.free.works h.noAppend ?_ ?_ ?_ ?_
    · simp at height ⊢
      omega
    · simpa [hstart] using hordered.tail
    · simpa [hstart] using fun g hg => hbelow g (List.mem_cons_of_mem f hg)
    · simp [hop, OpState.frameless]
  · have htracker := h.sound.tracker q q'
    have hle : below.start ≤ f.start := by simp at hordered; exact hordered.1.1
    generalize hu : (s.setTracker (trackerMerge s.tracker s.depth)).setTxn
      { s.txn with frames := below.carry f :: rest } = u
    have hudepth : u.depth = rest.length + 1 := by simp [← hu, State.depth]
    have hustart : ∀ d, 1 ≤ d → d ≤ rest.length + 1 → u.startAt d = s.startAt d := fun d hlow hhigh => by
      have hsame : u.startAt d = (s.setTxn { s.txn with frames := below :: rest }).startAt d :=
        startAt_congr (by simp [← hu, Frame.carry]) d
      rw [hsame]
      exact (startAt_of_frames_cons f (by simp [hframes]) hlow (by simpa [State.depth] using hhigh)).symm
    have hutracker : u.tracker = trackerMerge s.tracker s.depth := by simp [← hu]
    have hun : u.journal = s.journal := by simp [← hu]
    have huop : u.txn.op = .ready := by simp [← hu, hop]
    have hentry : ∀ x ∈ u.tracker, (1 ≤ x.depth ∧ x.depth ≤ rest.length + 1) ∧
        s.startAt x.depth ≤ x.index ∧ x.index < s.journal.n := fun x hx => by
      obtain ⟨e, he, -, hindex, ⟨hne, rfl⟩ | ⟨heq, hlow, -⟩⟩ := mem_trackerMerge _ _ _ (hutracker ▸ hx)
      · have := htracker.depths x he
        exact ⟨by omega, htracker.indexes x he⟩
      · have hstart := htracker.indexes e he
        rw [heq, hdepth, show s.startAt (rest.length + 2) = f.start from startAt_top f (below :: rest) hframes]
          at hstart
        rw [show x.depth = rest.length + 1 by omega, ← hustart _ (by omega) (by omega),
          startAt_top (below.carry f) rest (by simp [← hu]), hindex]
        exact ⟨by omega, hle.trans hstart.1, hstart.2⟩
    exact {
      atMost64 := by
        rw [hutracker]
        exact (List.length_filterMap_le _ _).trans htracker.atMost64
      distinct := hutracker ▸ trackerMerge_distinct _ _ htracker.distinct
      depths := fun x hx => hudepth ▸ (hentry x hx).1
      indexes := fun x hx => by
        obtain ⟨⟨hlow, hhigh⟩, hindex⟩ := hentry x hx
        rw [hustart _ hlow hhigh, hun]
        exact hindex
      missed := by simp [hun, h.noAppend]
      restored := by simp [huop] }

theorem Sound.runCommit (h : CommandBegins qs qf qt s) : Sound qs qf qt (runCommit s) := by
  unfold Machine.runCommit
  split
  case h_2 => exact h.refuses _ _
  case h_1 hop =>
  split
  case h_1 => exact h.refuses _ _
  case h_2 f hframes =>
    split
    · exact h.refuses _ _
    · refine Sound.requestAdvance (h.setOp (by simp [hop]) _ rfl rfl nofun (fun q => ?_) fun q q' => ?_)
        (h.free.setTxn _ rfl (by rw [hop]; rfl) rfl) rfl
      · exact { h.sound.frame q with
          frameless := by simp [OpState.frameless]
          committing := by simp [hframes]
          innerAbort := by simp
          appendAtN := by simp [h.noAppend] }
      · exact { h.sound.tracker q q' with
          restored := by simp }
  case h_3 f below rest hframes =>
    exact Sound.endExecution (h.merges hop f below rest hframes)
      ((h.free.of_eq (t := s.setTracker (trackerMerge s.tracker s.depth)) rfl rfl rfl rfl).setTxn _ rfl rfl rfl)
      h.quiet _ _

/-- A change between two states in which no frame is open, with the origin of SETUP (R158, R160). -/
theorem CommandBegins.setOrigin (h : CommandBegins qs qf qt s) (hop : s.txn.op ≠ .faulted) (op : OpState)
    (hop' : op = .ready ∨ op = .unconfigured ∨ op = .setup) (hframes : qf → s.txn.frames = [])
    (o : Option SetupOrigin) (r : Result) (d : ResultDetail) :
    Sound qs qf qt (endExecution ((s.setTxn { s.txn with op := op }).setConfig { s.config with origin := o })
      r d) := by
  have hquiet : op.isStartup = false := by rcases hop' with rfl | rfl | rfl <;> rfl
  have hset : Sound qs qf qt (s.setTxn { s.txn with op := op }) :=
    h.setOp hop _ rfl hquiet (by rcases hop' with rfl | rfl | rfl <;> nofun)
      (fun q => frameLaw_nil (by rcases hop' with rfl | rfl | rfl <;> simp) h.free.works h.noAppend (hframes q))
      fun q q' => trackerLaw_nil ((h.sound.tracker q q').eq_nil (hframes q))
  exact Sound.endExecution (hset.of_workPart (workPart_setConfig _ { s.config with origin := o } rfl rfl))
    ((h.free.setTxn { s.txn with op := op } rfl (by simp [hquiet, h.quiet]) rfl).of_eq rfl rfl rfl rfl)
    hquiet r d

theorem Sound.runAbort (h : CommandBegins qs qf qt s) : Sound qs qf qt (runAbort s) := by
  unfold Machine.runAbort
  split
  case h_3 => exact h.refuses _ _
  case h_1 hop =>
    split
    · exact h.refuses _ _
    case h_2 f rest hframes =>
      exact h.sound.enterAborting h.free _ _ (.inl hop) h.noAppend fun _ => ⟨rfl, by simp [hframes]⟩
  case h_2 hop =>
    refine h.setOrigin (by simp [hop]) _ ?_ (fun q => (h.sound.frame q).frameless (by rw [hop]; rfl)) _ _ _
    rcases s.config.origin with _ | _ | _ <;> simp [SetupOrigin.op]

theorem Sound.runUnwind (h : CommandBegins qs qf qt s) : Sound qs qf qt (runUnwind s) := by
  unfold Machine.runUnwind
  split
  case h_3 => exact h.refuses _ _
  case h_1 hop =>
    split
    · exact h.refuses _ _
    · exact h.sound.enterAborting h.free _ _ (.inl hop) h.noAppend (by omega)
  case h_2 hop => exact h.sound.enterAborting h.free _ _ (.inr hop) h.noAppend (by omega)

theorem Sound.runSetup (h : CommandBegins qs qf qt s) : Sound qs qf qt (runSetup s) := by
  unfold Machine.runSetup
  split
  case h_1 hop =>
    split
    case isTrue hdepth =>
      exact h.setOrigin (by simp [hop]) _ (.inr (.inr rfl)) (fun _ => List.eq_nil_of_length_eq_zero hdepth) _ _ _
    case isFalse => exact h.refuses _ _
  case h_2 hop =>
    exact h.setOrigin (by simp [hop]) _ (.inr (.inr rfl))
      (fun q => (h.sound.frame q).frameless (by rw [hop]; rfl)) _ _ _
  case h_3 => exact h.refuses _ _
  case h_4 => exact h.refuses _ _

theorem Sound.runAdopt (h : CommandBegins qs qf qt s) : Sound qs qf qt (runAdopt s) := by
  unfold Machine.runAdopt
  split
  case h_2 => exact h.refuses _ _
  case h_1 hop =>
  split
  · exact ⟨{ h.sound.work with
        stagedRead := fun _ => ⟨hop, h.free.executing h.quiet, h.free.works, h.free.noRun⟩ },
      { h.sound.engine with }, fun q => { h.sound.sequence q with }, fun q => { h.sound.frame q with },
      fun q q' => { h.sound.tracker q q' with }⟩
  · exact (h.sound.of_workPart (workPart_setConfig _ { s.config with adopting := true } rfl rfl)).request _
      (HandsFree.requestable (s := s.setConfig { s.config with adopting := true })
        (h.free.of_eq rfl rfl rfl rfl) (.configRead .staged) (by rw [State.setConfig_txn, hop]; rfl) rfl nofun)

theorem Sound.runDiscard (h : CommandBegins qs qf qt s) : Sound qs qf qt (runDiscard s) := by
  unfold Machine.runDiscard
  split
  case h_2 => exact h.refuses _ _
  case h_1 hop => exact h.sound.requestAdvance h.free (by rw [hop]; rfl)

theorem Sound.runCommand (h : CommandBegins qs qf qt s) (cmd : Command) (q : Half) :
    Sound qs qf qt (runCommand s cmd q) := by
  cases cmd with
  | acknowledge => exact runAcknowledge h
  | begin => exact runBegin h q
  | commit => exact runCommit h
  | abort => exact runAbort h
  | unwind => exact runUnwind h
  | setup => exact runSetup h
  | adopt => exact runAdopt h
  | discard => exact runDiscard h

/-! ### The take of a strobe, and the beginning of an execution (R124, R126, R127) -/

/-- A command is in flight that neither executes nor has ended. -/
structure Unbegun (s : State) : Prop where
  flight : s.command.inFlight.isSome = true
  stage  : s.txn.stage = .idle ∨ s.txn.stage = .waiting

theorem WorkLaw.handsFree (h : WorkLaw s) (hu : Unbegun s) :
    s.txn.op.isStartup = false ∧ s.works = [] ∧ s.running = false ∧ s.config.readWaits = false ∧
      Sequence.update .command ∉ s.sequences := by
  have hne : s.txn.stage ≠ .executing ∧ ∀ r, s.txn.stage ≠ .ended r := by
    rcases hu.stage with hx | hx <;> simp [hx]
  have hop : s.txn.op.isStartup = false := by
    by_contra hst
    have := hu.flight
    simp [(h.startupQuiet (by simpa using hst)).2.1] at this
  have hin := mt (h.inExecution hop) hne.1
  push Not at hin
  refine ⟨hop, hin.1, by simpa using hin.2, ?_, h.update_notMem hne.2⟩
  by_contra hr
  exact hne.1 (h.stagedRead (by simpa using hr)).2.1

/-- A command waits, or its execution begins. -/
theorem Sound.setStage (h : Sound qs qf qt s) (hu : Unbegun s) (x : Stage) :
    Sound qs qf qt (s.setTxn { s.txn with stage := x }) := by
  obtain ⟨hop, hworks, hrun, hread, hnot⟩ := h.work.handsFree hu
  refine ⟨?_, { h.engine with }, fun q => { h.sequence q with }, fun q => { h.frame q with },
    fun q q' => { h.tracker q q' with }⟩
  exact { h.work with
    inExecution := fun _ hw => by
      change s.works ≠ [] ∨ s.running = true at hw
      simp [hworks, hrun] at hw
    stageInFlight := fun _ => hu.flight
    startupQuiet := fun hst => by simp [hop] at hst
    updateEnded := fun hm => absurd hm hnot
    stagedRead := fun hr => absurd hr (by simp [hread]) }

theorem Sound.beginExecution (h : Sound qs qf qt s) (hu : Unbegun s) (happ : s.journal.append = none)
    (cmd : Command) (q : Half) : Sound qs qf qt (beginExecution s cmd q) := by
  obtain ⟨hop, hworks, hrun, hread, -⟩ := h.work.handsFree hu
  have hb : CommandBegins qs qf qt (s.setTxn { s.txn with stage := .executing }) :=
    ⟨h.setStage hu _, ⟨hworks, hrun, hread, fun _ => rfl, fun hst => by simp [hop] at hst⟩, hop, happ⟩
  unfold Machine.beginExecution
  simp only
  split
  · exact hb.refuses _ _
  · exact runCommand hb cmd q

theorem append_none_of_noWork (h : s.journaledWork = false) : s.journal.append = none := by
  simp only [State.journaledWork, Bool.or_eq_false_iff] at h
  simpa using h.1

theorem Sound.handOver (h : Sound qs qf qt s) (hu : Unbegun s) (cmd : Command) (q : Half) :
    Sound qs qf qt (handOver s cmd q) := by
  unfold Machine.handOver
  split
  · exact h.setStage hu _
  case isFalse hfree => exact h.beginExecution hu (append_none_of_noWork (by simpa using hfree)) cmd q

theorem Sound.takeStrobe (h : Sound qs qf qt s) (hbusy : s.command.busy = false) (cmd : Command) :
    Sound qs qf qt (takeStrobe s cmd) := by
  have hflight : s.command.inFlight = none := by
    by_contra hne
    have := h.work.flightIsBusy (Option.isSome_iff_ne_none.mpr hne)
    simp [hbusy] at this
  have hstage : s.txn.stage = .idle := by
    by_contra hne
    have := h.work.stageInFlight hne
    simp [hflight] at this
  have hop : s.txn.op.isStartup ≠ true := fun hst => by
    have := (h.work.startupQuiet hst).2.2
    simp [hbusy] at this
  let x : CommandPort := { s.command with
    busy := true, seq := s.command.seq + 1, inFlight := some (cmd, s.command.seq + 1), strobe := true }
  refine Sound.handOver (s := s.setCommand x) ⟨?_, { h.engine with }, fun q => { h.sequence q with }, fun q => { h.frame q with },
    fun q q' => { h.tracker q q' with }⟩ ⟨rfl, .inl hstage⟩ cmd _
  exact { h.work with
    stageInFlight := fun _ => rfl
    flightIsBusy := fun _ => rfl
    startupQuiet := fun hst => absurd hst hop }

/-- The level seen on CSTRB and the overrun flag are none of what the laws speak of. -/
theorem workPart_setCommand (s : State) (x : CommandPort) (hb : x.busy = s.command.busy)
    (hf : x.inFlight = s.command.inFlight) : (s.setCommand x).workPart = s.workPart := by
  simp [State.workPart, hb, hf]

end Sys2Proof.Machine
end

section
/-! SUPPORT. The laws of the work in hand along the control unit's memory cycles: a cycle landed, a sequence
that goes on, and what follows the last cycle of each. -/

namespace Sys2Proof.Machine

variable {qs qf qt : Prop} {s t : State}

/-! ### A memory cycle has landed (R112) -/

@[simp] theorem inFlightFor_landCycle (s : State) (m : MemCycle) (c : Claimant) :
    (landCycle s m).inFlightFor c = false := by
  unfold landCycle
  simp only
  split <;> rfl

theorem workPart_landCycle (s : State) (m : MemCycle) :
    (landCycle s m).workPart = (s.setPort { s.port with inFlight := none }).workPart := by
  unfold landCycle
  simp only
  split <;> simp

/-- A cycle that lands keeps every law, but that the control unit has then neither claim nor cycle. -/
theorem Sound.land (h : Sound qs qf qt s) (m : MemCycle) (hm : s.port.inFlight = some m) :
    Sound (qs ∧ m.claimant ≠ .control) qf qt (landCycle s m) := by
  have hport : Sound (qs ∧ m.claimant ≠ .control) qf qt (s.setPort { s.port with inFlight := none }) := by
    refine ⟨?_, { h.engine with }, fun q => ?_, fun q => { h.frame q with }, fun q q' => { h.tracker q q' with }⟩
    · exact { h.work with
        engineCycle := fun hx => h.work.engineCycle (.inl (by simpa [State.inFlightFor] using hx))
        engineOnce := by simp [State.inFlightFor]
        controlCycle := fun hx => h.work.controlCycle (.inl (by simpa [State.inFlightFor] using hx))
        controlOnce := by simp [State.inFlightFor] }
    · exact { h.sequence q.1 with
        claimed := fun hc => by
          have := (h.sequence q.1).claimed hc
          simp only [State.inFlightFor, hm, Option.any_some, beq_iff_eq] at this
          exact .inl (this.resolve_right q.2) }
  exact hport.of_workPart (workPart_landCycle s m)

/-- The sequence in progress ends, with neither claim nor cycle of the control unit left. -/
theorem Sound.endSequence (h : Sound False qf qt s) (hclaim : s.port.claimControl = false)
    (hflight : s.inFlightFor .control = false) : Sound qs qf qt (endSequence s) := by
  have hsub : (Machine.endSequence s).sequences.Sublist s.sequences := by
    rw [endSequence_sequences]
    exact List.sublist_append_right _ _
  have hmem : ∀ k ∈ (Machine.endSequence s).sequences, k ∈ s.sequences := fun k hk => hsub.subset hk
  have hworks : (Machine.endSequence s).works.Sublist s.works := hsub.filter _
  have hnil : s.works = [] → (Machine.endSequence s).works = [] := fun hs => by
    rw [hs] at hworks
    exact List.sublist_nil.mp hworks
  refine ⟨?_, { h.engine with }, fun _ => sequenceLaw_of_idle rfl, fun q => { h.frame q with
    voidMark := fun hm => (h.frame q).voidMark (hmem _ hm) }, fun q q' => { h.tracker q q' with }⟩
  exact { h.work with
    oneWork := hworks.length_le.trans h.work.oneWork
    belongs := fun k hk => h.work.belongs k (hmem k hk)
    runAlone := fun hr => hnil (h.work.runAlone hr)
    inExecution := fun hop hw => h.work.inExecution hop (hw.imp_left (mt hnil))
    updateEnded := fun hm => h.work.updateEnded (hmem _ hm)
    oneUpdate := (hsub.count_le _).trans h.work.oneUpdate
    endDecided := fun hop he => (h.work.endDecided hop he).imp_left hnil
    controlCycle := fun hx => by
      have : s.port.claimControl = true ∨ s.inFlightFor .control = true := hx
      simp [hclaim, hflight] at this
    stagedRead := fun hr => by
      obtain ⟨hop, hstage, hnone, hrun⟩ := h.work.stagedRead hr
      exact ⟨hop, hstage, hnil hnone, hrun⟩ }

/-- The end of a sequence other than an update leaves no piece of work in hand. -/
theorem WorkLaw.handsFree_endSequence (h : WorkLaw s) {k : Sequence} (hk : s.control.current = some k)
    (hu : k.isUpdate = false) : HandsFree (Machine.endSequence s) := by
  have hworks : s.works = k :: (Machine.endSequence s).works := by
    simp [State.works, State.sequences, hk, hu, endSequence]
  have hne : s.works ≠ [] := by simp [hworks]
  have hone := h.oneWork
  refine ⟨?_, ?_, ?_, fun hop => h.inExecution hop (.inl hne), fun hop => ?_⟩
  · simpa [hworks] using hone
  · exact Bool.eq_false_iff.mpr fun hr => hne (h.runAlone hr)
  · exact Bool.eq_false_iff.mpr fun hr => hne (h.stagedRead hr).2.2.1
  · by_contra he
    exact hne (h.endDecided hop (Option.isSome_iff_ne_none.mpr he)).1

/-- What follows the last cycle of a sequence finds: no work in hand, and the control unit idle. -/
structure SequenceEnded (qs qf qt : Prop) (s : State) : Prop where
  sound : Sound qs qf qt s
  free  : HandsFree s
  idle  : s.control.current = none

/-! ### What a finished epoch advance brings about -/

/-- The journal unit's items change with no work in hand and no append, at an idle control unit. -/
theorem SequenceEnded.setJournal (h : SequenceEnded qs qf qt s) (x : Journal)
    (happ : x.append = s.journal.append) : SequenceEnded qs False False (s.setJournal x) where
  sound := {
    work := { h.sound.work with appendReady := by simpa [happ] using h.sound.work.appendReady }
    engine := { h.sound.engine with
      runCursor := fun hr => by
        have : s.running = true := hr
        simp [h.free.noRun] at this }
    sequence := fun _ => sequenceLaw_of_idle h.idle
    frame := nofun
    tracker := nofun }
  free := h.free.setJournal x
  idle := h.idle

theorem SequenceEnded.setTracker (h : SequenceEnded qs False False s) (x : List TrackerEntry) :
    SequenceEnded qs False False (s.setTracker x) where
  sound := ⟨{ h.sound.work with }, { h.sound.engine with }, fun _ => sequenceLaw_of_idle h.idle, nofun, nofun⟩
  free := h.free.of_eq rfl rfl rfl rfl
  idle := h.idle

theorem SequenceEnded.advanceEpoch (h : SequenceEnded qs qf qt s) (slot : HeaderSlot) (epoch : Long)
    (g : Geometry) : SequenceEnded qs False False (advanceEpoch s slot epoch g) :=
  (h.setJournal { s.journal with
    slot := some slot, epoch := epoch, geometry := some g, capacity := capacityOf g, n := 0,
    link := epochLow epoch } rfl).setTracker []

/-- Every frame is removed and the state becomes READY, the tracker being empty (R33, R38, R166). -/
theorem Sound.setReady {qf' qt' : Prop} (h : Sound qs qf' qt' s) (hf : HandsFree s)
    (hop : s.txn.op.isStartup = false) (hne : s.txn.op ≠ .ready) (hnf : s.txn.op ≠ .faulted)
    (htracker : s.tracker = []) :
    Sound qs qf qt (s.setTxn { s.txn with frames := [], op := .ready }) :=
  h.setOp hf (h.work.no_append hne) _ rfl hop rfl
    ⟨nofun, fun hx => absurd hx (h.engine.not_stopped hnf hf.undecided)⟩
    (fun _ => frameLaw_nil (by simp) hf.works (h.work.no_append hne) rfl) fun _ _ => trackerLaw_nil htracker

theorem HandsFree.setReady (h : HandsFree s) (hop : s.txn.op.isStartup = false) :
    HandsFree (s.setTxn { s.txn with frames := [], op := .ready }) :=
  h.setTxn _ rfl (by rw [hop]; rfl) rfl

/-- COMMITTING and an abort of target depth 1 end alike: READY with no frame, the outcome, and the held cycle
lifted (R33, R38). -/
theorem Sound.readyAgain {qf' qt' : Prop} (h : Sound qs qf' qt' s) (hf : HandsFree s)
    (hop : s.txn.op = .committing ∨ s.txn.op = .aborting) (htracker : s.tracker = []) (r : Result)
    (d : ResultDetail) : Sound qs qf qt
      (Machine.releaseHeld (Machine.endExecution (s.setTxn { s.txn with frames := [], op := .ready }) r d)) := by
  have hst : s.txn.op.isStartup = false := by rcases hop with hop | hop <;> rw [hop] <;> rfl
  have hready := h.setReady (qf := qf) (qt := qt) hf hst (by rcases hop with hop | hop <;> simp [hop])
    (by rcases hop with hop | hop <;> simp [hop]) htracker
  exact (hready.endExecution (hf.setReady hst) rfl r d).releaseHeld

/-- DISCARD ends with the engine IDLE (R42, R109). -/
theorem Sound.discardEnds {qf' qt' : Prop} (h : Sound qs qf' qt' s) (hf : HandsFree s)
    (hop : s.txn.op = .faulted) (htracker : s.tracker = []) : Sound qs qf qt (discardEnds s) := by
  have hst : s.txn.op.isStartup = false := by rw [hop]; rfl
  have happ := h.work.no_append (by simp [hop])
  obtain ⟨hclaim, hflight⟩ := h.work.engine_quiet hf.noRun
  let e : Engine := { s.engine with run := .idle, cursor := none, count := 0, reason := none }
  let x : Controller := { s.txn with frames := [], op := .ready }
  have hfree : HandsFree (s.setEngine e) := ⟨hf.works, rfl, hf.noRead, hf.executing, hf.undecided⟩
  have hwork : WorkLaw ((s.setEngine e).setTxn x) :=
    (h.work.setEngine e (.inl rfl) hclaim hflight).setTxn hfree x rfl (by rw [State.setEngine_txn, hst]; rfl)
      (by simp [happ])
  have hready : Sound qs qf qt ((s.setEngine e).setTxn x) := by
    refine ⟨hwork, ?_, fun q => { h.sequence q with },
      fun _ => frameLaw_nil (by simp [x]) hf.works happ rfl, fun _ _ => trackerLaw_nil htracker⟩
    exact {
      idleCursor := fun _ => rfl
      runCursor := by simp [State.running, e]
      faultStopped := by simp [x]
      endStopped := by simp [x, OpState.isStartup]
      stoppedOnly := by simp [e] }
  exact hready.endExecution (hfree.setReady hst) rfl _ _

@[simp] theorem loadConfig_config_readWaits (s : State) (c : Configuration) :
    (loadConfig s c).config.readWaits = s.config.readWaits := rfl

theorem workPart_loadConfig (s : State) (c : Configuration) : (loadConfig s c).workPart = s.workPart := by
  simp [State.workPart, loadConfig]

theorem Sound.adoptInstalls {qf' qt' : Prop} (h : Sound qs qf' qt' s) (hf : HandsFree s)
    (hop : s.txn.op = .setup) (htracker : s.tracker = []) : Sound qs qf qt (adoptInstalls s) := by
  unfold Machine.adoptInstalls
  simp only
  generalize hu : (loadConfig s (readConfig s.config.buffer)).setConfig
    { (loadConfig s (readConfig s.config.buffer)).config with adopting := false, origin := none } = u
  have hpart : u.workPart = s.workPart := by
    simp [← hu, State.workPart, loadConfig]
  have hfree : HandsFree u := hf.of_eq (by simp [← hu, State.works, State.sequences])
    (by simp [← hu, State.running]) (by simp [← hu]) (by simp [← hu])
  have huop : u.txn.op = .setup := by simp [← hu, hop]
  have hst : u.txn.op.isStartup = false := by rw [huop]; rfl
  exact (Sound.setReady (h.of_workPart hpart) hfree hst (by simp [huop]) (by simp [huop])
    (by simp [← hu, htracker])).endExecution (hfree.setReady hst) rfl _ _

/-- In STARTUP the laws of frames and tracker hold of an empty stack and tracker. -/
theorem SequenceEnded.inStartup {qf' qt' : Prop} (h : SequenceEnded qs qf' qt' s)
    (hop : s.txn.op.isStartup = true) (hframes : qf → s.txn.frames = []) (htracker : qf → qt → s.tracker = []) :
    SequenceEnded qs qf qt s where
  sound := {
    work := h.sound.work
    engine := h.sound.engine
    sequence := h.sound.sequence
    frame := fun q => frameLaw_nil (by constructor <;> (rintro h'; simp [h', OpState.isStartup] at hop)) h.free.works
      (h.sound.work.no_append (by rintro h'; simp [h', OpState.isStartup] at hop)) (hframes q)
    tracker := fun q q' => trackerLaw_nil (htracker q q') }
  free := h.free
  idle := h.idle

theorem Sound.frames_nil (h : Sound qs qf qt s) (hop : s.txn.op.frameless = true) :
    (qf → s.txn.frames = []) ∧ (qf → qt → s.tracker = []) :=
  ⟨fun q => (h.frame q).frameless hop, fun q q' => (h.tracker q q').eq_nil ((h.frame q).frameless hop)⟩

theorem Sound.epochAdvanceCompletes (h : SequenceEnded qs qf qt s) (slot : HeaderSlot) (epoch : Long)
    (g : Geometry) (hop : s.txn.op.advances = true) :
    Sound qs qf qt (epochAdvanceCompletes s slot epoch g) := by
  have hu := h.advanceEpoch slot epoch g
  have hframes : s.txn.op.isStartup = true → SequenceEnded qs qf qt (advanceEpoch s slot epoch g) := fun hst =>
    hu.inStartup (by simpa using hst) (fun q => by simpa using (h.sound.frames_nil (by
      cases ho : s.txn.op <;> simp_all [OpState.isStartup, OpState.frameless])).1 q) (fun _ _ => rfl)
  have htxn : (advanceEpoch s slot epoch g).txn = s.txn := by simp
  have htracker : (advanceEpoch s slot epoch g).tracker = [] := rfl
  unfold Machine.epochAdvanceCompletes
  simp only
  generalize advanceEpoch s slot epoch g = u at hu hframes htxn htracker ⊢
  split
  case h_1 hop' => exact hu.sound.readyAgain hu.free (.inl hop') htracker _ _
  case h_2 hop' => exact hu.sound.readyAgain hu.free (.inr hop') htracker _ _
  case h_3 hop' => exact hu.sound.discardEnds hu.free hop' htracker
  case h_4 hop' => exact hu.sound.adoptInstalls hu.free hop' htracker
  case h_5 p hop' =>
    have := hframes (by rw [← htxn, hop']; rfl)
    exact this.sound.closingEnds this.free (by rw [hop']; rfl)
  all_goals
    rename_i hop'
    rw [← htxn, hop'] at hop
    cases hop

/-! ### Header slots and configuration slots read and written -/

theorem Sound.loadHeader (h : SequenceEnded qs qf qt s) (hop : s.txn.op = .startup .scanning)
    (slot : HeaderSlot) (x : Header) : Sound qs qf qt (loadHeader s slot x) := by
  obtain ⟨hframes, htracker⟩ := h.sound.frames_nil (by rw [hop]; rfl)
  have hst : s.txn.op.isStartup = true := by rw [hop]; rfl
  unfold Machine.loadHeader
  refine Sound.request ((h.setJournal { s.journal with
    slot := some slot, epoch := x.epoch, geometry := some x.geometry, capacity := capacityOf x.geometry, n := 0,
    link := epochLow x.epoch } rfl).inStartup hst hframes htracker).sound .scan ?_
  exact (h.free.setJournal _).requestable .scan (by simp [Sequence.belongs, hop]) rfl nofun

theorem Sound.headerSlotsRead (h : SequenceEnded qs qf qt s)
    (hop : Sequence.headerRead.belongs s.txn.op = true) (l : List Byte) :
    Sound qs qf qt (headerSlotsRead s l) := by
  have hwhere : s.txn.op = .startup .scanning ∨ (s.txn.op.isStartup = false ∧
      ∀ x e g, (Sequence.headerWrite x e g).belongs s.txn.op = true) := by
    simp only [Sequence.belongs, Bool.or_eq_true, beq_iff_eq] at hop ⊢
    rcases hop with ((((hop | hop) | hop) | hop) | hop) <;> simp [hop, OpState.isStartup]
  unfold Machine.headerSlotsRead
  simp only
  rcases hwhere with hscan | ⟨hst, hbelongs⟩
  · have hst : s.txn.op.isStartup = true := by rw [hscan]; rfl
    rw [if_pos hst]
    split
    · exact h.sound.enterClosing h.free hst
    · exact Sound.loadHeader h hscan _ _
  · rw [if_neg (by simp [hst])]
    unfold headerAfter
    split
    · exact h.sound.request _ (h.free.requestable _ (hbelongs _ _ _) rfl nofun)
    · exact h.sound.request _ (h.free.requestable _ (hbelongs _ _ _) rfl nofun)

theorem Sound.loadingEnds (h : SequenceEnded qs qf qt s) (hop : s.txn.op = .startup .loading)
    (c : Configuration) : Sound qs qf qt (loadingEnds s c) := by
  unfold Machine.loadingEnds
  simp only
  generalize hu : (loadConfig s c).setDecoder
    { (loadConfig s c).decoder with control := some (loadConfig s c).controlBase } = u
  have hsound : Sound qs qf qt u := h.sound.of_workPart (by rw [← hu, workPart_setDecoder, workPart_loadConfig])
  have hfree : HandsFree u := h.free.of_eq (by simp [← hu, State.works, State.sequences])
    (by simp [← hu, State.running]) (by simp [← hu]) (by simp [← hu])
  have hutxn : u.txn = s.txn := by simp [← hu]
  have hst : u.txn.op.isStartup = true := by rw [hutxn, hop]; rfl
  have hstop : u.engine.run ≠ .stopped :=
    hsound.engine.not_stopped (by simp [hutxn, hop]) hfree.undecided
  have hscan := hsound.setStartup hfree hst { u.txn with op := .startup .scanning } rfl rfl rfl
    ⟨fun he => by simp [hfree.undecided hst] at he, fun hs => absurd hs hstop⟩
  have hprogress := hscan.request _ (requestable_update _ .progress nofun)
  refine hprogress.request .headerRead ?_
  exact ((hfree.setTxn { u.txn with op := .startup .scanning } rfl (by rw [hst]; rfl) rfl).requestUpdate
    .progress).requestable _ (by simp [Sequence.belongs]) rfl nofun

theorem Sound.noConfigEnds (h : SequenceEnded qs qf qt s) (hop : s.txn.op = .startup .loading) :
    Sound qs qf qt (noConfigEnds s) := by
  have hst : s.txn.op.isStartup = true := by rw [hop]; rfl
  have hstop : s.engine.run ≠ .stopped := h.sound.engine.not_stopped (by simp [hop]) h.free.undecided
  unfold Machine.noConfigEnds
  have hdecoder : Sound qs qf qt (s.setDecoder { s.decoder with control := some s.controlBase }) :=
    h.sound.of_workPart (workPart_setDecoder _ _)
  have hdecided := hdecoder.setStartup (h.free.of_eq rfl rfl rfl rfl) hst
    { s.txn with endState := some .unconfigured } rfl rfl hst ⟨nofun, fun hs => absurd hs hstop⟩
  exact (hdecided.raiseEvent _ _ _).request _ (requestable_update _ .final nofun)

theorem Sound.adoptFails (h : SequenceEnded qs qf qt s) (hop : s.txn.op = .setup) (r : ConfigReason) :
    Sound qs qf qt (adoptFails s r) :=
  Sound.endExecution (h.sound.of_workPart (workPart_setConfig _ { s.config with adopting := false } rfl rfl))
    (h.free.of_eq rfl rfl rfl rfl) (by rw [State.setConfig_txn, hop]; rfl) _ _

theorem Sound.configSlotRead (h : SequenceEnded qs qf qt s) (slot : ConfigSlot)
    (hop : (Sequence.configRead slot).belongs s.txn.op = true) : Sound qs qf qt (configSlotRead s slot) := by
  have hloading : slot ≠ .staged → s.txn.op = .startup .loading := fun hs => by
    cases slot <;> simp_all [Sequence.belongs]
  have hsetup : slot = .staged → s.txn.op = .setup := fun hs => by simp_all [Sequence.belongs]
  unfold Machine.configSlotRead
  split
  · exact Sound.adoptFails h (hsetup rfl) _
  · exact h.sound.request _ (h.free.requestable _ (by simp [Sequence.belongs, hsetup]) rfl nofun)
  · exact Sound.loadingEnds h (hloading nofun) _
  · exact h.sound.request _ (h.free.requestable _ (by simp [Sequence.belongs, hloading]) rfl nofun)
  · exact Sound.loadingEnds h (hloading nofun) _
  · exact Sound.noConfigEnds h (hloading nofun)

theorem Sound.configSlotWritten (h : SequenceEnded qs qf qt s) (slot : ConfigSlot)
    (hop : s.txn.op = .setup) : Sound qs qf qt (configSlotWritten s slot) := by
  cases slot with
  | secondary => exact h.sound.request _ (h.free.requestable _ (by simp [Sequence.belongs, hop]) rfl nofun)
  | primary => exact h.sound.requestAdvance h.free (by rw [hop]; rfl)
  | staged => exact h.sound

/-! ### The end of an update (R128, R180) -/

/-- The result record of the command in flight is written, and with it the command is done (R128). -/
theorem Sound.commandUpdateEnds (h : Sound qs qf qt s) {r : CommandResult} (hstage : s.txn.stage = .ended r)
    (hnot : Sequence.update .command ∉ s.sequences) : Sound qs qf qt (commandUpdateEnds s) := by
  have hop : s.txn.op.isStartup ≠ true := fun hst => by simpa [hstage] using (h.work.startupQuiet hst).1
  have hin := mt (h.work.inExecution (by simpa using hop)) (by simp [hstage])
  push Not at hin
  refine ⟨?_, { h.engine with }, fun q => { h.sequence q with }, fun q => { h.frame q with },
    fun q q' => { h.tracker q q' with }⟩
  exact { h.work with
    inExecution := fun _ hw => by
      change s.works ≠ [] ∨ s.running = true at hw
      simp [hin] at hw
    stageInFlight := fun hne => absurd rfl hne
    flightIsBusy := nofun
    startupQuiet := fun hst => absurd hst hop
    updateEnded := fun hm => absurd hm hnot
    stagedRead := fun hr => by
      have := (h.work.stagedRead hr).2.1
      simp [hstage] at this }

theorem Sound.startupEnds (h : Sound qs qf qt s) : Sound qs qf qt (startupEnds s) := by
  unfold Machine.startupEnds
  split
  case h_2 => exact h
  case h_1 e hop he =>
  have hst : s.txn.op.isStartup = true := by rw [hop]; rfl
  obtain ⟨hworks, hrun⟩ := h.work.endDecided hst (by simp [he])
  obtain ⟨hstage, hflight, -⟩ := h.work.startupQuiet hst
  have happ := h.work.no_append (by simp [hop])
  have hread : s.config.readWaits = false := by
    by_contra hr
    have := (h.work.stagedRead (by simpa using hr)).1
    simp [hop] at this
  obtain ⟨hframes, htracker⟩ := h.frames_nil (by rw [hop]; rfl)
  have hquiet : e.op.isStartup = false := by cases e <;> rfl
  refine ⟨?_, ?_, fun q => { h.sequence q with }, fun q => ?_, fun q q' => trackerLaw_nil (htracker q q')⟩
  · exact { h.work with
      belongs := fun k hk => by
        have hu := isUpdate_of_works_nil hworks hk
        cases k <;> simp_all [Sequence.isUpdate, Sequence.belongs]
      runWhere := fun hr => by
        have : s.running = true := hr
        simp [hrun] at this
      inExecution := fun _ hw => by
        change s.works ≠ [] ∨ s.running = true at hw
        simp [hworks, hrun] at hw
      flightIsBusy := fun hf => by simp [hflight] at hf
      startupQuiet := fun hx => by simp [hquiet] at hx
      endDecided := fun hx => by simp [hquiet] at hx
      stagedRead := fun hr => by simp [hread] at hr
      appendReady := by simp [happ] }
  · have hstopped : e = .faulted ↔ s.engine.run = .stopped := by
      constructor
      · rintro rfl
        exact h.engine.endStopped hst he
      · intro hs
        have := (h.engine.stoppedOnly hs).resolve_left (by simp [hop])
        simpa [he] using this.2
    exact { h.engine with
      faultStopped := fun hx => hstopped.mp (by cases e <;> simp_all [EndState.op])
      endStopped := fun hx => by simp [hquiet] at hx
      stoppedOnly := fun hs => .inl (by simp [hstopped.mpr hs, EndState.op]) }
  · exact frameLaw_nil (by cases e <;> simp [EndState.op]) hworks happ (hframes q)

/-! ### A sequence that goes on (R113, R114) -/

/-- What a cycle of a sequence keeps is the buffers, the progress and the snapshot number. -/
theorem sequenceKeeps_items (s : State) (k : Sequence) (b : Byte) :
    let t := sequenceKeeps s k b
    t.txn = s.txn ∧ t.journal = s.journal ∧ t.tracker = s.tracker ∧ t.engine = s.engine ∧ t.port = s.port ∧
      t.command = s.command ∧ t.control.current = s.control.current ∧ t.control.waiting = s.control.waiting ∧
      t.config.readWaits = s.config.readWaits := by
  have hsnapshot : (snapshotAfter s b).control.current = s.control.current ∧
      (snapshotAfter s b).control.waiting = s.control.waiting := by
    unfold snapshotAfter
    simp only
    (repeat' split) <;> exact ⟨rfl, rfl⟩
  cases k <;> simp [sequenceKeeps, configKeeps, configWrote, updateCycleEffects, hsnapshot]

/-- The laws but that of the sequence in progress speak of the control unit by its sequences and by whether it has
one in progress. -/
theorem Sound.of_items (h : Sound False qf qt s) (hsequences : t.sequences = s.sequences)
    (htxn : t.txn = s.txn) (hjournal : t.journal = s.journal) (htracker : t.tracker = s.tracker)
    (hengine : t.engine = s.engine) (hcommand : t.command.busy = s.command.busy ∧
      t.command.inFlight = s.command.inFlight) (hread : t.config.readWaits = s.config.readWaits)
    (hclaim : t.port.claimEngine = s.port.claimEngine) (hflight : t.inFlightFor .engine = s.inFlightFor .engine)
    (hcontrol : t.port.claimControl = true ∨ t.inFlightFor .control = true → t.control.current.isSome = true)
    (honce : t.inFlightFor .control = true → t.port.claimControl = false) (hq : qs → SequenceLaw t) :
    Sound qs qf qt t := by
  have hworks : t.works = s.works := by simp [State.works, hsequences]
  have hrunning : t.running = s.running := by simp [State.running, hengine]
  obtain ⟨hwork, hengine', -, hframe, htracker'⟩ := h
  refine ⟨?_, ?_, hq, fun q => ?_, fun q q' => ?_⟩
  · obtain ⟨a, b, c, d, e, f, g, h, i, j, k, l, m, -, -, p, q⟩ := hwork
    constructor
    case controlCycle => exact hcontrol
    case controlOnce => exact honce
    all_goals simpa only [hworks, hsequences, hrunning, hflight, htxn, hjournal, hclaim, hcommand, hread, hengine]
  · obtain ⟨a, b, c, d, e⟩ := hengine'
    constructor <;> simpa only [hrunning, htxn, hjournal, hengine]
  · obtain ⟨a, b, c, d, e, f, g, h⟩ := hframe q
    constructor <;> simpa only [hsequences, htxn, hjournal, hengine]
  · obtain ⟨a, b, c, d, e, f⟩ := htracker' q q'
    constructor <;> simpa only [hrunning, htxn, hjournal, hengine, htracker, State.depth, State.startAt]

theorem Sound.sequenceKeeps (h : Sound False qf qt s) (k : Sequence) (b : Byte) :
    Sound False qf qt (sequenceKeeps s k b) := by
  obtain ⟨htxn, hjournal, htracker, hengine, hport, -, hcurrent, hwaiting, hread⟩ :=
    sequenceKeeps_items s k b
  refine h.of_items (by simp only [State.sequences, hcurrent, hwaiting]) htxn hjournal htracker hengine
    (by simp) hread (by rw [hport]) (by simp only [State.inFlightFor, hport]) ?_ ?_ nofun
  · simpa only [State.inFlightFor, hport, hcurrent] using h.work.controlCycle
  · simpa only [State.inFlightFor, hport] using h.work.controlOnce

end Sys2Proof.Machine
end

section
/-! SUPPORT. The laws of the work in hand along every step: the end of a memory cycle, the grant, the power
warning and the reset. Settles O9, O12, O13 and O14. -/

namespace Sys2Proof.Machine

variable {qs qf qt : Prop} {s t : State}

/-! ### What the cycles of an update keep and capture (R140, R145, R146) -/

@[simp] theorem attentionAfter_status_snapReads (s : State) :
    (attentionAfter s).status.snapReads = s.status.snapReads := by
  unfold attentionAfter
  split <;> rfl

@[simp] theorem attentionAfter_status_snapshot (s : State) :
    (attentionAfter s).status.snapshot = s.status.snapshot := by
  unfold attentionAfter
  split <;> rfl

@[simp] theorem attentionAfter_status_begun (s : State) :
    (attentionAfter s).status.liveBegun = s.status.liveBegun ∧
      (attentionAfter s).status.areaBegun = s.status.areaBegun := by
  unfold attentionAfter
  split <;> exact ⟨rfl, rfl⟩

/-- The snapshot number after a cycle of an update: from the four bytes read, or the new number when the first
byte of the leading field is written (R146). -/
theorem snapshotAfter_snapshot (s : State) (b : Byte) : (snapshotAfter s b).status.snapshot =
    if s.control.done + 1 = s.status.snapReads then some (longAt (s.control.buffer ++ [b]) 0)
    else if s.control.done = s.status.snapReads then some s.status.number
    else s.status.snapshot := by
  unfold snapshotAfter
  simp only [State.setControl_status]
  rcases Nat.lt_trichotomy s.control.done s.status.snapReads with h | h | h
  · rw [if_pos h, if_neg (c := s.control.done = _) (by omega)]
    by_cases hlast : s.control.done + 1 = s.status.snapReads
    · simp [hlast]
    · simp [hlast]
  · rw [if_neg (by omega), if_pos h, if_neg (by omega), if_pos h]
    rfl
  · rw [if_neg (by omega), if_neg (by omega), if_neg (by omega), if_neg (by omega)]

@[simp] theorem snapshotAfter_status_kept (s : State) (b : Byte) :
    (snapshotAfter s b).status.snapReads = s.status.snapReads ∧
      (snapshotAfter s b).status.liveBegun = s.status.liveBegun ∧
      (snapshotAfter s b).status.areaBegun = s.status.areaBegun := by
  unfold snapshotAfter
  simp only
  (repeat' split) <;> exact ⟨rfl, rfl, rfl⟩

@[simp] theorem snapshotAfter_control_done (s : State) (b : Byte) :
    (snapshotAfter s b).control.done = s.control.done := by
  unfold snapshotAfter
  simp only
  (repeat' split) <;> rfl

/-- The items of the update in progress that its captures do not give. -/
@[simp] theorem captureLive_update (s : State) (k : UpdateKind) (i : Nat) :
    (captureLive s k i).status.snapReads = s.status.snapReads ∧
      (captureLive s k i).status.liveBegun = (decide (i = 0) || s.status.liveBegun) ∧
      (captureLive s k i).status.areaBegun = s.status.areaBegun := by
  unfold captureLive
  split <;> simp_all

@[simp] theorem captureNumber_update (s : State) (i : Nat) :
    (captureNumber s i).status.snapReads = s.status.snapReads ∧
      (captureNumber s i).status.liveBegun = s.status.liveBegun ∧
      (captureNumber s i).status.areaBegun = s.status.areaBegun := by
  unfold captureNumber
  split <;> simp

@[simp] theorem captureArea_update (s : State) (i : Nat) :
    (captureArea s i).status.snapReads = s.status.snapReads ∧
      (captureArea s i).status.liveBegun = s.status.liveBegun ∧
      (captureArea s i).status.areaBegun = (decide (i = s.status.snapReads + 64) || s.status.areaBegun) := by
  unfold captureArea
  split <;> simp_all

@[simp] theorem captureResult_update (s : State) (i : Nat) :
    (captureResult s i).status.snapReads = s.status.snapReads ∧
      (captureResult s i).status.liveBegun = s.status.liveBegun ∧
      (captureResult s i).status.areaBegun = s.status.areaBegun := by
  unfold captureResult
  split <;> simp

@[simp] theorem captureUpdate_status_snapReads (s : State) (k : UpdateKind) :
    (captureUpdate s k).status.snapReads = s.status.snapReads := by
  simp [captureUpdate]

/-- The live-state record begins at the grant of an update's first cycle (R145). -/
theorem captureUpdate_status_liveBegun (s : State) (k : UpdateKind) :
    (captureUpdate s k).status.liveBegun = (decide (s.control.done = 0) || s.status.liveBegun) := by
  simp [captureUpdate]

/-- The event area begins at the grant of its first cycle (R145). -/
theorem captureUpdate_status_areaBegun (s : State) (k : UpdateKind) :
    (captureUpdate s k).status.areaBegun =
      (decide (s.control.done = s.status.snapReads + 64) || s.status.areaBegun) := by
  simp [captureUpdate]

/-! ### A sequence that goes on -/

/-- A cycle that is not the last of its sequence leaves it with its next cycle claimed (R112 to R114). -/
theorem SequenceLaw.continues (h : SequenceLaw s) (hclaim : s.port.claimControl = false) (m : MemCycle)
    {k : Sequence} (hk : s.control.current = some k) (hscan : k ≠ .scan) (b : Byte) :
    SequenceLaw (continueSequence (sequenceKeeps (landCycle s m) k b)) := by
  have hcurrent : (continueSequence (sequenceKeeps (landCycle s m) k b)).control.current = some k := by
    have := (sequenceKeeps_items (landCycle s m) k b).2.2.2.2.2.2.1
    simpa [continueSequence, State.claimControl, hk] using this
  refine ⟨fun _ => .inl rfl, ?_, ?_, ?_, ?_, ?_, ?_, ?_⟩ <;> rw [hcurrent]
  · rintro x (hx | hx) <;> obtain rfl := Option.some.inj hx
    · simpa [continueSequence, State.claimControl, sequenceKeeps, configKeeps] using h.slot x (.inl hk)
    · simpa [continueSequence, State.claimControl, sequenceKeeps, configWrote] using h.slot x (.inr hk)
  · intro hx
    obtain rfl := Option.some.inj hx
    simpa [continueSequence, State.claimControl, sequenceKeeps, headerReadBytes] using h.headerRead hk
  · intro hx
    exact absurd (Option.some.inj hx) hscan
  all_goals
    intro kind hx
    obtain rfl := Option.some.inj hx
    have hreads := h.snapReads kind hk
    have hsnapshot := h.snapshot kind hk
    have hlive := h.live kind hk
    have harea := h.area kind hk
  · simpa [continueSequence, State.claimControl, sequenceKeeps, updateCycleEffects] using hreads
  · simp only [continueSequence, State.claimControl, sequenceKeeps, updateCycleEffects, State.setPort_status,
      State.setControl_status, attentionAfter_status_snapshot, snapshotAfter_snapshot, State.setPort_control,
      State.setControl_control, attentionAfter_status_snapReads, (snapshotAfter_status_kept _ _).1,
      attentionAfter_control, snapshotAfter_control_done, landCycle_control, landCycle_status]
    split
    · simp
      omega
    · split
      · simp
        omega
      · rw [hsnapshot]
        omega
  · simp only [continueSequence, State.claimControl, sequenceKeeps, updateCycleEffects, State.setPort_status,
      State.setControl_status, (attentionAfter_status_begun _).1, (snapshotAfter_status_kept _ _).2.1,
      landCycle_status, State.setPort_control, State.setControl_control]
    simp [hlive, hclaim]
  · simp only [continueSequence, State.claimControl, sequenceKeeps, updateCycleEffects, State.setPort_status,
      State.setControl_status, (attentionAfter_status_begun _).2, (snapshotAfter_status_kept _ _).2.2,
      attentionAfter_status_snapReads, (snapshotAfter_status_kept _ _).1, attentionAfter_control,
      snapshotAfter_control_done, landCycle_status, landCycle_control, State.setPort_control,
      State.setControl_control, State.setPort_port]
    rw [harea]
    simp [hclaim]
    omega

/-- The control unit's claim for the next cycle of the sequence in progress. -/
theorem WorkLaw.claimControl (h : WorkLaw s) (hcurrent : s.control.current.isSome = true)
    (hflight : s.inFlightFor .control = false) : WorkLaw s.claimControl :=
  { h with
    engineCycle := h.engineCycle
    engineOnce := h.engineOnce
    controlCycle := fun _ => hcurrent
    controlOnce := fun hx => by
      have : s.inFlightFor .control = true := hx
      simp [hflight] at this }

/-- A claim of the control unit keeps every law but that of the sequence in progress. -/
theorem Sound.claimControl (h : Sound False qf qt s) (hcurrent : s.control.current.isSome = true)
    (hflight : s.inFlightFor .control = false) (hq : qs → SequenceLaw s.claimControl) :
    Sound qs qf qt s.claimControl :=
  ⟨h.work.claimControl hcurrent hflight, { h.engine with }, hq, fun q => { h.frame q with },
    fun q q' => { h.tracker q q' with }⟩

/-! ### The scan (R175, R176) -/

theorem Sound.of_false (h : Sound qs qf qt s) : Sound False qf qt s :=
  ⟨h.work, h.engine, nofun, h.frame, h.tracker⟩

theorem Sound.setControl (h : Sound False qf qt s) (x : ControlUnit) (hc : x.current = s.control.current)
    (hw : x.waiting = s.control.waiting) : Sound False qf qt (s.setControl x) :=
  h.of_items (by simp [State.sequences, hc, hw]) rfl rfl rfl rfl ⟨rfl, rfl⟩ rfl rfl rfl
    (by simpa [hc, State.inFlightFor] using h.work.controlCycle) h.work.controlOnce nofun

theorem Sound.enterRestoring (h : SequenceEnded qs qf qt s) (hop : s.txn.op = .startup .scanning)
    (hfound : s.txn.found = s.journal.n) : Sound qs qf qt (enterRestoring s) := by
  have hst : s.txn.op.isStartup = true := by rw [hop]; rfl
  have hstop : s.engine.run ≠ .stopped := h.sound.engine.not_stopped (by simp [hop]) h.free.undecided
  obtain ⟨hframes, htracker⟩ := h.sound.frames_nil (by rw [hop]; rfl)
  have hrestoring := h.sound.setStartup h.free hst { s.txn with op := .startup .restoring } rfl rfl rfl
    ⟨fun he => by simp [h.free.undecided hst] at he, fun hs => absurd hs hstop⟩
  have hprogress := hrestoring.request _ (requestable_update _ .progress nofun)
  have hfree := (h.free.setTxn { s.txn with op := .startup .restoring } rfl (by rw [hst]; rfl) rfl).requestUpdate
    .progress
  obtain ⟨hclaim, hflight⟩ := hprogress.work.engine_quiet hfree.noRun
  unfold Machine.enterRestoring
  simp only
  refine Sound.startRun hprogress.work ⟨hfree.works, .inr (by simp), hfree.noRead, hfree.executing,
    hfree.undecided, hclaim, hflight⟩ hfree.noRun _ _ _ (by simp [hfound]) hprogress.sequence (fun q => ?_)
    fun q q' => ⟨hprogress.tracker q q', fun e he => ?_⟩
  · exact frameLaw_nil (by simp) hfree.works (by simpa using h.sound.work.no_append (by simp [hop]))
      (by simpa using hframes q)
  · simp [htracker q q'] at he

/-- The scan ends with the records of `n` positions accepted (R175). -/
theorem Sound.scanEnds (h : Sound False qf qt s) (hcurrent : s.control.current = some .scan)
    (hclaim : s.port.claimControl = false) (hflight : s.inFlightFor .control = false) (n : Nat) :
    Sound qs qf qt (scanEnds s n) := by
  have hop : s.txn.op = .startup .scanning := by
    simpa [Sequence.belongs] using h.work.belongs .scan (by simp [State.sequences, hcurrent])
  have hst : s.txn.op.isStartup = true := by rw [hop]; rfl
  obtain ⟨hframes, htracker⟩ := h.frames_nil (by rw [hop]; rfl)
  have hended : SequenceEnded qs qf qt (Machine.endSequence s) :=
    ⟨h.endSequence hclaim hflight, h.work.handsFree_endSequence hcurrent rfl, rfl⟩
  let j : Journal := { s.journal with n := n, link := s.control.scanLink }
  have hjournal : SequenceEnded qs qf qt ((Machine.endSequence s).setJournal j) :=
    (hended.setJournal j rfl).inStartup hst hframes htracker
  have hfound : SequenceEnded qs qf qt (((Machine.endSequence s).setJournal j).setTxn { s.txn with found := n }) :=
    ⟨hjournal.sound.of_workPart rfl, hjournal.free.setTxn _ rfl rfl rfl, rfl⟩
  unfold Machine.scanEnds
  simp only
  split
  · exact hfound.sound.enterClosing hfound.free hst
  · exact Sound.enterRestoring hfound hop rfl

/-- More bytes are asked for only while the record is not whole. -/
theorem length_of_scanVerdict_more (s : State) (buf : List Byte) (h : scanVerdict s buf = .more) :
    buf.length ≠ s.geometry.granule + 10 := by
  intro hlen
  unfold scanVerdict recordSize at h
  simp only at h
  (repeat' split at h) <;> first | omega | cases h

theorem Sound.scanGoesOn (h : Sound False qf qt s) (hcurrent : s.control.current = some .scan)
    (hclaim : s.port.claimControl = false) (hflight : s.inFlightFor .control = false) (b : Byte)
    (hlen : qs → s.control.buffer.length < s.geometry.granule + 10)
    (hlink : qs → s.control.scanPos = 0 → s.control.scanLink = s.journal.epoch.extractLsb' 0 16) :
    Sound qs qf qt (scanGoesOn s (s.control.buffer ++ [b])) := by
  unfold Machine.scanGoesOn
  split
  · exact h.scanEnds hcurrent hclaim hflight _
  case h_2 hmore =>
    have hne := length_of_scanVerdict_more s _ hmore
    refine Sound.claimControl (h.setControl _ rfl rfl) (by simp [hcurrent]) hflight fun q => ?_
    have hlen' := hlen q
    refine ⟨fun _ => .inl rfl, ?_, ?_, fun _ => ⟨?_, hlink q⟩, ?_, ?_, ?_, ?_⟩
    case refine_3 =>
      simp only [List.length_append, List.length_singleton] at hne
      simp only [State.claimControl, State.setPort_control, State.setControl_control, List.length_append,
        List.length_singleton]
      change _ < s.geometry.granule + 10
      omega
    all_goals simp [State.claimControl, hcurrent]
  · simp only
    have haccepted : Sound False qf qt (scanAccepts s (s.control.buffer ++ [b])) := h.setControl _ rfl rfl
    split
    · exact haccepted.scanEnds hcurrent hclaim hflight _
    · refine Sound.claimControl haccepted (by simp [scanAccepts, hcurrent]) hflight fun _ => ?_
      refine ⟨fun _ => .inl rfl, ?_, ?_, fun _ => ⟨?_, ?_⟩, ?_, ?_, ?_, ?_⟩
      all_goals simp [State.claimControl, scanAccepts, hcurrent]

/-! ### A cycle of the control unit ends -/

/-- What follows the last cycle of a sequence that is not an update. -/
theorem Sound.workEnds (h : SequenceEnded qs qf qt s) (l : List Byte) {k : Sequence} (hu : k.isUpdate = false)
    (hb : k.belongs s.txn.op = true) (hvoid : k = .voidMark → qf → 2 ≤ s.engine.target.level) :
    Sound qs qf qt (sequenceEnds s l k) := by
  cases k with
  | headerWrite slot epoch g =>
    refine Sound.epochAdvanceCompletes h slot epoch g ?_
    simp only [Sequence.belongs, Bool.or_eq_true, beq_iff_eq] at hb
    rcases hb with ((((hb | hb) | hb) | hb) | hb) <;> rw [hb] <;> rfl
  | headerRead => exact Sound.headerSlotsRead h hb l
  | voidMark => exact h.sound.innerAbortEnds h.free (by simpa [Sequence.belongs] using hb) (hvoid rfl)
  | configRead slot => exact Sound.configSlotRead h slot hb
  | configWrite slot => exact Sound.configSlotWritten h slot (by simpa [Sequence.belongs] using hb)
  | scan => exact h.sound
  | update kind => cases hu

/-- What follows the last cycle of an update. -/
theorem Sound.updateEnds (h : Sound False qf qt s) {kind : UpdateKind}
    (hcurrent : s.control.current = some (.update kind)) (hclaim : s.port.claimControl = false)
    (hflight : s.inFlightFor .control = false) : Sound qs qf qt (Machine.updateEnds (Machine.endSequence s) kind) := by
  have hended : Sound qs qf qt (Machine.endSequence s) := h.endSequence hclaim hflight
  cases kind with
  | command =>
    have hsequences : s.sequences = .update .command :: (Machine.endSequence s).sequences := by
      simp [State.sequences, hcurrent, Machine.endSequence]
    obtain ⟨r, hr⟩ := h.work.updateEnded (by simp [hsequences])
    refine hended.commandUpdateEnds hr fun hm => ?_
    have hone := h.work.oneUpdate
    rw [hsequences, List.count_cons_self] at hone
    have := List.count_pos_iff.mpr hm
    omega
  | raise => exact hended
  | progress => exact hended
  | final => exact hended.startupEnds

theorem Sound.controlCycleEnds (h : Sound qs qf qt s) (m : MemCycle) (hm : s.port.inFlight = some m)
    (hcontrol : m.claimant = .control) (b : Byte) :
    Sound qs qf qt (controlCycleEnds (landCycle s m) b) := by
  have hflight : s.inFlightFor .control = true := by simp [State.inFlightFor, hm, hcontrol]
  have hclaim := h.work.controlOnce hflight
  have hland : Sound False qf qt (landCycle s m) := (h.land m hm).of_false
  have hgeometry : (landCycle s m).geometry = s.geometry := by simp [State.geometry]
  unfold Machine.controlCycleEnds
  split
  case h_1 hcurrent => exact ⟨hland.work, hland.engine, fun _ => sequenceLaw_of_idle hcurrent, hland.frame, hland.tracker⟩
  case h_2 hcurrent =>
    have hscan : s.control.current = some .scan := by simpa using hcurrent
    refine hland.scanGoesOn hcurrent (by simpa using hclaim) (by simp) b (fun q => ?_) fun q => ?_
    · simpa [hgeometry] using ((h.sequence q).scan hscan).1
    · simpa using ((h.sequence q).scan hscan).2
  case h_3 k hne hcurrent =>
    have hk : s.control.current = some k := by simpa using hcurrent
    have hmem : k ∈ s.sequences := by simp [State.sequences, hk]
    have hitems := sequenceKeeps_items (landCycle s m) k b
    have hkept := hland.sequenceKeeps k b
    simp only
    simp only at hitems
    obtain ⟨htxn, hjournal, htracker, hengine, hport, hcommand, hcur, hwaiting, hread⟩ := hitems
    have hcur' : (Machine.sequenceKeeps (landCycle s m) k b).control.current = some k := by simpa [hk] using hcur
    have hclaim' : (Machine.sequenceKeeps (landCycle s m) k b).port.claimControl = false := by
      simpa [hport] using hclaim
    have hflight' : (Machine.sequenceKeeps (landCycle s m) k b).inFlightFor .control = false := by
      have := inFlightFor_landCycle s m .control
      simpa [State.inFlightFor, hport] using this
    split
    · by_cases hu : k.isUpdate = true
      · obtain ⟨kind, rfl⟩ : ∃ kind, k = .update kind := by cases k <;> simp_all [Sequence.isUpdate]
        exact hkept.updateEnds hcur' hclaim' hflight'
      · have hu' : k.isUpdate = false := by simpa using hu
        have hended : SequenceEnded qs qf qt (Machine.endSequence (Machine.sequenceKeeps (landCycle s m) k b)) :=
          ⟨hkept.endSequence hclaim' hflight', hkept.work.handsFree_endSequence hcur' hu', rfl⟩
        refine Sound.workEnds hended _ hu' ?_ ?_
        · simpa [htxn] using h.work.belongs k hmem
        · rintro rfl q
          simpa [hengine] using (h.frame q).voidMark hmem
    · refine Sound.claimControl (hkept.setControl _ rfl rfl) (by simp [hcur']) hflight' fun q => ?_
      exact (h.sequence q).continues hclaim m hk hne b

/-! ### A cycle of the host path ends (R18) -/

/-- The insert an append offers keeps the tracker's law (R51). -/
theorem TrackerLaw.insert (h : TrackerLaw s) (g d p : Nat) (hroom : s.tracker.length < 64) (hlow : 1 ≤ d)
    (hhigh : d ≤ s.depth) (hstart : s.startAt d ≤ p) (hn : p < s.journal.n)
    (hmiss : trackerHit s.tracker g d = false) (happ : s.journal.append = none) (hrun : s.running = false) :
    TrackerLaw (s.setTracker (s.tracker ++ [{ granule := g, depth := d, index := p, pending := false }])) where
  atMost64 := by simpa using hroom
  distinct := by
    simp only [State.setTracker_tracker, List.map_append, List.map_cons, List.map_nil]
    refine List.nodup_append.mpr ⟨h.distinct, by simp, fun a ha b hb => ?_⟩
    obtain ⟨e, he, rfl⟩ := List.mem_map.mp ha
    obtain rfl := List.mem_singleton.mp hb
    simp only [trackerHit, List.any_eq_false, Bool.and_eq_true, beq_iff_eq] at hmiss
    exact fun heq => hmiss e he (Prod.mk.inj heq)
  depths := by
    simp only [State.setTracker_tracker, List.mem_append, List.mem_singleton]
    rintro e (he | rfl)
    · exact h.depths e he
    · exact ⟨hlow, hhigh⟩
  indexes := by
    simp only [State.setTracker_tracker, List.mem_append, List.mem_singleton]
    rintro e (he | rfl)
    · exact h.indexes e he
    · exact ⟨hstart, hn⟩
  missed := by simp [happ]
  restored := fun hr => by
    have : s.running = true := hr
    simp [hrun] at this

theorem Sound.offerInsert (h : Sound qs qf qt s) (g d p : Nat) (happ : s.journal.append = none)
    (hrun : s.running = false) (hplace : qf → qt → 1 ≤ d ∧ d ≤ s.depth ∧ s.startAt d ≤ p ∧ p < s.journal.n ∧
      trackerHit s.tracker g d = false) : Sound qs qf qt (offerInsert s g d p) := by
  by_cases hroom : s.tracker.length < 64
  · rw [offerInsert_room s g d p hroom]
    refine ⟨{ h.work with }, { h.engine with }, fun q => { h.sequence q with }, fun q => { h.frame q with },
      fun q q' => ?_⟩
    obtain ⟨hlow, hhigh, hstart, hn, hmiss⟩ := hplace q q'
    exact (h.tracker q q').insert g d p hroom hlow hhigh hstart hn hmiss happ hrun
  · rw [offerInsert_full s g d p (by omega)]
    refine Sound.raiseEvent (h.of_workPart ?_) _ _ _
    simp [State.workPart, map_bare_markTopSpill]

theorem Sound.appendCompletes (h : Sound qs qf qt s) (a : Append) (ha : s.journal.append = some a) :
    Sound qs qf qt (appendCompletes s a) := by
  have hop : s.txn.op = .ready := h.work.appendReady (by simp [ha])
  have hrun : s.running = false := by
    by_contra hr
    rcases h.work.runWhere (by simpa using hr) with hx | hx <;> simp [hx] at hop
  unfold Machine.appendCompletes
  simp only
  generalize hj : ({ s.journal with
    n := a.index + 1, link := recordCheck s.geometry.granule (appendRecord s a), append := none } : Journal) = j
  have hjournal : Sound qs qf qt (s.setJournal j) := by
    refine ⟨{ h.work with appendReady := by simp [← hj] }, { h.engine with
      runCursor := fun hr => by
        have : s.running = true := hr
        simp [hrun] at this }, fun q => ?_, fun q => ?_, fun q q' => ?_⟩
    · have hgeometry : (s.setJournal j).geometry = s.geometry := by simp [State.geometry, ← hj]
      exact { h.sequence q with
        scan := fun hc => ⟨hgeometry ▸ ((h.sequence q).scan hc).1, by simpa [← hj] using ((h.sequence q).scan hc).2⟩ }
    · obtain ⟨hindex, -, -⟩ := (h.frame q).appendAtN a ha
      exact { h.frame q with
        belowN := fun f hf => by
          have := (h.frame q).belowN f hf
          simp only [State.setJournal_journal, ← hj]
          omega
        appendAtN := by simp [← hj] }
    · obtain ⟨hindex, -, -⟩ := (h.frame q).appendAtN a ha
      exact { h.tracker q q' with
        indexes := fun e he => by
          have := (h.tracker q q').indexes e he
          have hstart : (s.setJournal j).startAt e.depth = s.startAt e.depth := rfl
          have hn : (s.setJournal j).journal.n = a.index + 1 := by simp [← hj]
          omega
        missed := by simp [← hj] }
  refine Sound.offerInsert (hjournal.endNormally 0) _ _ _ (by simp [← hj])
    (by simpa [State.running] using hrun) fun q q' => ?_
  obtain ⟨hindex, hdepth, hlow⟩ := (h.frame q).appendAtN a ha
  obtain ⟨f, rest, hframes⟩ := List.exists_cons_of_length_pos (l := s.txn.frames) (by omega)
  have hlen : a.depth = rest.length + 1 := by simpa [hframes] using hdepth
  have hstart : (Machine.endNormally (s.setJournal j) 0).startAt a.depth = f.start := by
    rw [hlen]
    exact startAt_top f rest (by simpa using hframes)
  refine ⟨hlow, by simp [State.depth, hdepth], ?_, by simp [← hj], ?_⟩
  · rw [hstart, hindex]
    exact (h.frame q).belowN f (by simp [hframes])
  · simpa using (h.tracker q q').missed a ha

theorem Sound.hostCycleEnds (h : Sound qs qf qt s) (b : Byte) : Sound qs qf qt (hostCycleEnds s b) := by
  unfold Machine.hostCycleEnds
  split
  case h_1 a ha =>
    split
    · exact h.appendCompletes a ha
    · exact h.appendGoesOn a ha b
  · exact h.endNormally b

/-! ### Every end of a memory cycle (R112) -/

theorem Sound.cycleEnds (h : Sound qs qf qt s) (m : MemCycle) (hm : s.port.inFlight = some m) :
    Sound qs qf qt (cycleEnds s m) := by
  have hland := h.land m hm
  unfold Machine.cycleEnds claimantGoesOn
  split
  case h_1 hwho =>
    have := hland.hostCycleEnds (cycleByte s m)
    exact ⟨this.work, this.engine, fun q => this.sequence ⟨q, by simp [hwho]⟩, this.frame, this.tracker⟩
  case h_2 hwho => exact h.controlCycleEnds m hm hwho _
  case h_3 hwho =>
    have hflight : s.inFlightFor .engine = true := by simp [State.inFlightFor, hm, hwho]
    have hrun : s.engine.run = .running := h.work.engineCycle (.inr hflight)
    have := hland.engineCycleEnds (by simp [State.running, hrun]) (by simpa using h.work.engineOnce hflight)
      (by simp) (cycleByte s m)
    exact ⟨this.work, this.engine, fun q => this.sequence ⟨q, by simp [hwho]⟩, this.frame, this.tracker⟩

/-! ### The grant (R115, R116) -/

theorem inFlightFor_none (h : s.port.inFlight = none) (c : Claimant) : s.inFlightFor c = false := by
  simp [State.inFlightFor, h]

/-- A grant to the host path keeps every law. -/
theorem Sound.grantHost (h : Sound qs qf qt s) (hfree : s.port.inFlight = none) :
    Sound qs qf qt (grantHost s) := by
  have hpart : (Machine.grantHost s).workPart =
      (s.setPort { s.port with inFlight := hostCycle s }).workPart := by
    unfold Machine.grantHost
    split <;> simp [State.workPart]
  have hother : ∀ c, c ≠ .host → (s.setPort { s.port with inFlight := hostCycle s }).inFlightFor c = false :=
    fun c hc => by
      simp only [State.inFlightFor, State.setPort_port, Option.any_eq_false]
      intro m hm
      simpa [hostCycle_claimant s m hm] using hc.symm
  refine Sound.of_workPart (s := s.setPort { s.port with inFlight := hostCycle s }) ⟨?_, { h.engine with },
    fun q => ?_, fun q => { h.frame q with }, fun q q' => { h.tracker q q' with }⟩ hpart
  · exact { h.work with
      engineCycle := fun hx => h.work.engineCycle (hx.imp_right fun hy => by simp [hother] at hy)
      engineOnce := by simp [hother]
      controlCycle := fun hx => h.work.controlCycle (hx.imp_right fun hy => by simp [hother] at hy)
      controlOnce := by simp [hother] }
  · exact { h.sequence q with
      claimed := fun hc => .inl (((h.sequence q).claimed hc).resolve_right (by simp [inFlightFor_none hfree])) }

theorem SequenceLaw.grantControl (h : SequenceLaw s) (hclaim : s.port.claimControl = true) :
    SequenceLaw (grantControl s) := by
  have hcontrol' : (Machine.grantControl s).control = s.control := by simp
  have hgeometry : (Machine.grantControl s).geometry = s.geometry := by simp [State.geometry]
  have hcapture : ∀ kind, s.control.current = some (.update kind) →
      (Machine.grantControl s).status = (captureUpdate s kind).status := fun kind hk => by
    simp [Machine.grantControl, captureControl, hk]
  refine ⟨fun hc => .inr ?_, ?_, ?_, ?_, ?_, ?_, ?_, ?_⟩
  · have hsome := controlCycle_isSome (captureControl s)
    rw [captureControl_control, ← hcontrol', hc] at hsome
    obtain ⟨m, hm⟩ := Option.isSome_iff_exists.mp hsome
    simp [State.inFlightFor, grantControl_port, hm, controlCycle_claimant _ m hm]
  · simpa [hcontrol'] using h.slot
  · simpa [hcontrol'] using h.headerRead
  · simpa [hcontrol', hgeometry] using h.scan
  all_goals
    intro kind hk
    rw [hcontrol'] at hk
    simp only [hcapture kind hk, hcontrol']
  · simpa using h.snapReads kind hk
  · simpa using h.snapshot kind hk
  · have := h.live kind hk
    simp only [captureUpdate_status_liveBegun, grantControl_port, Bool.or_eq_true, decide_eq_true_eq, this, hclaim]
    simp
    tauto
  · have := h.area kind hk
    simp only [captureUpdate_status_areaBegun, captureUpdate_status_snapReads, grantControl_port, Bool.or_eq_true,
      decide_eq_true_eq, this, hclaim]
    simp
    tauto

theorem Sound.grantControl (h : Sound qs qf qt s) (hfree : s.port.inFlight = none)
    (hclaim : s.port.claimControl = true) : Sound qs qf qt (grantControl s) := by
  have hnoEngine : (Machine.grantControl s).inFlightFor .engine = false := by
    simp only [State.inFlightFor, grantControl_port, Option.any_eq_false]
    intro m hm
    simp [controlCycle_claimant _ m hm]
  refine h.of_false.of_items (by simp [State.sequences]) (by simp) (by simp) (by simp) (by simp)
    ⟨by simp [Machine.grantControl], by simp [Machine.grantControl]⟩ (by simp)
    (by simp [grantControl_port]) (hnoEngine.trans (inFlightFor_none hfree _).symm)
    (fun _ => by simpa using h.work.controlCycle (.inl hclaim)) (by simp [grantControl_port])
    fun q => (h.sequence q).grantControl hclaim

theorem Sound.grantEngine (h : Sound qs qf qt s) (hfree : s.port.inFlight = none)
    (hclaim : s.port.claimEngine = true) : Sound qs qf qt (grantEngine s) := by
  have hrun := h.work.engineCycle (.inl hclaim)
  have hother : ∀ c, c ≠ .engine → (Machine.grantEngine s).inFlightFor c = false := fun c hc => by
    simp only [State.inFlightFor, grantEngine_port, Option.any_eq_false]
    intro m hm
    simpa [engineCycle_claimant _ m hm] using hc.symm
  refine ⟨?_, { h.engine with }, fun q => ?_, fun q => { h.frame q with }, fun q q' => { h.tracker q q' with }⟩
  · exact { h.work with
      engineCycle := fun _ => hrun
      engineOnce := fun _ => rfl
      controlCycle := fun hx => h.work.controlCycle (hx.imp_right fun hy => by simp [hother] at hy)
      controlOnce := by simp [hother] }
  · exact { h.sequence q with
      claimed := fun hc => .inl (((h.sequence q).claimed hc).resolve_right (by simp [inFlightFor_none hfree])) }

theorem claimControl_of_decideGrant (p : Port) (h : decideGrant p = some .control) : p.claimControl = true := by
  have := decideGrant_claims p .control h
  simpa using this

theorem Sound.settle (h : Sound qs qf qt s) : Sound qs qf qt (settle s) := by
  refine Sound.of_workPart (s := arbitrate s) ?_ (workPart_startTimer _)
  rcases arbitrate_cases s with ⟨he, -⟩ | ⟨hfree, -, he⟩ | ⟨hfree, hgrant, he⟩ | ⟨hfree, hgrant, he⟩ <;> rw [he]
  · exact h
  · exact h.grantHost hfree
  · exact h.grantControl hfree (by simpa using decideGrant_claims s.port _ hgrant)
  · exact h.grantEngine hfree (by simpa using decideGrant_claims s.port _ hgrant)

/-! ### The power warning (R102, R103) -/

/-- A run with no cycle of its own in flight is suspended with its claim withdrawn. -/
theorem Sound.suspend (h : Sound qs qf qt s) (hrun : s.engine.run = .running)
    (hflight : s.inFlightFor .engine = false) :
    Sound qs qf qt (s.setEngine { s.engine with run := .suspended }).withdrawEngine := by
  have hr : s.running = true := by simp [State.running, hrun]
  refine ⟨?_, ?_, fun q => { h.sequence q with }, fun q => { h.frame q with }, fun q q' => ?_⟩
  · exact { h.work with
      runAlone := fun _ => h.work.runAlone hr
      runWhere := fun _ => h.work.runWhere hr
      inExecution := fun hop _ => h.work.inExecution hop (.inr hr)
      endDecided := fun hop he => absurd (h.work.endDecided hop he).2 (by simp [hr])
      engineCycle := fun hx => by
        have : s.inFlightFor .engine = true := by simpa [State.withdrawEngine, State.inFlightFor] using hx
        simp [hflight] at this
      engineOnce := fun _ => rfl
      controlCycle := h.work.controlCycle
      controlOnce := h.work.controlOnce
      stagedRead := fun hx => absurd (h.work.stagedRead hx).2.2.2 (by simp [hr]) }
  · exact {
      idleCursor := by simp [State.withdrawEngine]
      runCursor := fun _ => h.engine.runCursor hr
      faultStopped := fun hx => by simpa [hrun] using h.engine.faultStopped hx
      endStopped := fun hop he => by simpa [hrun] using h.engine.endStopped hop he
      stoppedOnly := by simp [State.withdrawEngine] }
  · exact { h.tracker q q' with restored := fun _ => (h.tracker q q').restored hr }

theorem Sound.reportWarning (h : Sound qs qf qt s) : Sound qs qf qt (reportWarning s) := by
  have hdrawn : Sound qs qf qt (s.setFree (s.free + 1)) := h.of_workPart rfl
  unfold Machine.reportWarning raiseWarning
  (repeat' split)
  · exact hdrawn.hostOnWarning.raiseEvent _ _ _
  · exact (hdrawn.raiseEvent _ _ _).hostOnWarning
  · exact (h.raiseEvent _ _ _).hostOnWarning

theorem Sound.warningAsserts (h : Sound qs qf qt s) : Sound qs qf qt (warningAsserts s) := by
  have hreport : Sound qs qf qt (Machine.reportWarning (s.setWarning true)) :=
    Sound.reportWarning (h.of_workPart (workPart_setWarning s true))
  unfold Machine.warningAsserts engineOnWarning
  split
  case isTrue hrun =>
    simp only [Bool.and_eq_true, decide_eq_true_eq, Bool.not_eq_true'] at hrun
    exact hreport.suspend hrun.1 hrun.2
  · exact hreport

theorem Sound.warningNegates (h : Sound qs qf qt s) : Sound qs qf qt (warningNegates s) := by
  have hcleared : Sound qs qf qt (s.setWarning false) := h.of_workPart (workPart_setWarning s false)
  refine Sound.updateForNegation ?_
  unfold engineResumes
  split
  case isFalse => exact hcleared
  case isTrue hsuspended =>
    have hrun : s.engine.run = .suspended := hsuspended
    have hquiet := mt hcleared.work.engineCycle (by simp [hrun])
    push Not at hquiet
    exact hcleared.runGoesOn (by simp [State.running, hrun]) (by simpa using hquiet.1) (by simpa using hquiet.2)

/-! ### The reset (R170) -/

/-- The values after reset meet the laws of the work in hand. -/
theorem sound_reset : Sound qs qf qt State.reset where
  work := by constructor <;> simp [State.reset, State.works, State.sequences, State.running, State.inFlightFor]
  engine := by constructor <;> simp [State.reset, State.running]
  sequence := fun _ => sequenceLaw_of_idle rfl
  frame := fun _ => frameLaw_nil (by simp [State.reset]) rfl rfl rfl
  tracker := fun _ _ => trackerLaw_nil rfl

/-- The end of a reset begins LOADING from the values after reset (R170, R172). -/
theorem Sound.leaveReset (h : ResetLaw s) (hr : s.resetting = true) (msz : BitVec 3) (high strobe : Bool) :
    Sound qs qf qt (leaveReset s msz high strobe) := by
  have hreset := h hr
  have hsampled : Sound qs qf qt (((((s.setResetting false).setPort { s.port with strap := strapSize msz }).setCommand
      { s.command with strobe := strobe }).setTxn { s.txn with op := .startup .loading }).setWarning (!high)) := by
    refine (sound_reset (qs := qs) (qf := qf) (qt := qt)).of_workPart ?_
    rw [← hreset]
    rfl
  have hloading : Sound qs qf qt (requestSequence (((((s.setResetting false).setPort
      { s.port with strap := strapSize msz }).setCommand { s.command with strobe := strobe }).setTxn
      { s.txn with op := .startup .loading }).setWarning (!high)) (.configRead .primary)) := by
    refine hsampled.request _ (HandsFree.requestable ⟨?_, ?_, ?_, fun hop => ?_, fun _ => ?_⟩ _ rfl rfl nofun)
    case refine_4 => cases hop
    all_goals
      rw [← hreset]
      rfl
  unfold Machine.leaveReset
  simp only
  split
  · exact hloading
  · exact hloading.raiseEvent _ _ _

/-! ### Every step -/

/-- The sequence that has waited longest begins at an idle control unit (R114). -/
theorem Sound.begin (h : Sound qs qf qt s) {k : Sequence} {rest : List Sequence} (hc : s.control.current = none)
    (hw : s.control.waiting = k :: rest) :
    Sound qs qf qt (beginSequence (s.setControl { s.control with waiting := rest }) k) := by
  obtain ⟨-, hflight⟩ := h.work.control_idle hc
  obtain ⟨hcurrent, -, hwaiting, -⟩ := beginSequence_spec (s.setControl { s.control with waiting := rest }) k
  have hsequence := sequenceLaw_beginSequence (s.setControl { s.control with waiting := rest }) k
  have hport : (beginSequence (s.setControl { s.control with waiting := rest }) k).port =
    { s.port with claimControl := true } := by cases k <;> rfl
  have hread : (beginSequence (s.setControl { s.control with waiting := rest }) k).config.readWaits =
    s.config.readWaits := by cases k <;> rfl
  refine h.of_false.of_items ?_ (by simp) (by simp) (by simp) (by simp) (by simp) hread (by rw [hport])
    (by simp only [State.inFlightFor, hport]) (fun _ => by simp [hcurrent]) (fun hx => ?_) fun _ => hsequence
  · rw [State.sequences, hcurrent, hwaiting]
    simp [State.sequences, hc, hw]
  · simp only [State.inFlightFor, hport] at hx hflight
    simp [hflight] at hx

/-- Each piece of work keeps the laws of the work in hand. -/
theorem StepBody.sound (hb : StepBody s t) (hr : ResetLaw s) (h : Sound qs qf qt s) : Sound qs qf qt t := by
  cases hb with
  | resetEnds msz high strobe hres => exact Sound.leaveReset hr hres msz high strobe
  | warns => exact h.warningAsserts
  | negates => exact h.warningNegates
  | takes _ addr w data => exact h.takeCycle addr w data
  | expires _ timer =>
    exact Sound.expireHold (s := timerAtLimit s timer) (h.of_workPart (workPart_setHost s _))
  | takesStrobe _ cmd hbusy => exact h.takeStrobe hbusy cmd
  | begins _ cmd q hflight hdue =>
    simp only [commandDue, Bool.and_eq_true, beq_iff_eq, Bool.not_eq_true'] at hdue
    exact h.beginExecution ⟨by simp [hflight], .inr hdue.1⟩ (append_none_of_noWork hdue.2) cmd q
  | ends _ m hm => exact h.cycleEnds m hm
  | starts _ k rest hc hw => exact h.begin hc hw

/-- Every step keeps the laws of the work in hand, each with those it rests on. -/
theorem StepEffect.sound (he : StepEffect s t) (hr : ResetLaw s) (h : Sound qs qf qt s) : Sound qs qf qt t := by
  cases he with
  | stays => exact h
  | resets => exact (sound_reset (qs := qs) (qf := qf) (qt := qt)).of_workPart rfl
  | releases => exact h.of_workPart rfl
  | counts => exact h.of_workPart rfl
  | sees => exact h.of_workPart rfl
  | ignores => exact h.of_workPart rfl
  | closes hb => exact (hb.sound hr h).settle

theorem resetLaw_setPending (h : ResetLaw s) (l : List Instr) : ResetLaw (s.setPending l) := fun hr => by
  have := h hr
  rw [← this]
  rfl

theorem sound_step (hr : ResetLaw s) (h : Sound qs qf qt s) (hstep : step s = .next t) : Sound qs qf qt t := by
  obtain ⟨rest, he⟩ := step_effect s t hstep
  exact he.sound (resetLaw_setPending hr rest) (h.of_workPart (workPart_setPending s rest))

end Sys2Proof.Machine

namespace Sys2Proof
open Machine

/-- Settles O9: the state after reset is one of known values. -/
theorem lawsHoldAtReset : Obligations.LawsHoldAtReset := by
  have hsound := sound_reset (qs := True) (qf := True) (qt := True)
  refine ⟨rfl, ?_, ?_, fun _ => rfl, ?_, hsound.work, hsound.engine, hsound.frame trivial,
    hsound.tracker trivial trivial, fun _ => ⟨rfl, rfl, rfl⟩, hsound.sequence trivial⟩
  · constructor <;> simp [State.reset]
  · constructor <;> simp [State.reset]
  · constructor <;> simp [State.reset, State.inFlightFor]

/-- Settles O12: `Sound` without the laws of frames and tracker is kept by every step. -/
theorem everyStepKeepsOnePieceOfWork : Obligations.EveryStepKeepsOnePieceOfWork := by
  intro s t hr hwork hengine hstep
  have hkept : Sound (SequenceLaw s) False False t :=
    sound_step hr ⟨hwork, hengine, id, nofun, nofun⟩ hstep
  exact ⟨hkept.work, hkept.engine, hkept.sequence⟩

/-- Settles O13: `Sound` with the law of frames is kept by every step. -/
theorem everyStepKeepsTheFrameStackOrdered : Obligations.EveryStepKeepsTheFrameStackOrdered := by
  intro s t hr hwork hengine hframe hstep
  have hkept : Sound False True False t :=
    sound_step hr ⟨hwork, hengine, nofun, fun _ => hframe, nofun⟩ hstep
  exact hkept.frame trivial

/-- Settles O14: `Sound` with the laws of frames and tracker is kept by every step. -/
theorem everyStepKeepsTheTrackerWithinTheFrames : Obligations.EveryStepKeepsTheTrackerWithinTheFrames := by
  intro s t hr hwork hengine hframe htracker hstep
  have hkept : Sound False True True t :=
    sound_step hr ⟨hwork, hengine, nofun, fun _ => hframe, fun _ _ => htracker⟩ hstep
  exact hkept.tracker trivial trivial

end Sys2Proof
end

section
/-! SUPPORT. The law of the host cycle in progress along every step, and the law of the memory port. Settles O11. -/

namespace Sys2Proof.Machine

variable {s t : State}

/-! ### What the host port's law speaks of -/

/-- The items the host port's law speaks of, with every other item at its value after reset. -/
def State.hostPart (s : State) : State :=
  { State.reset with
    host := { s.host with data := 0 }
    journal := { State.reset.journal with append := s.journal.append }
    port := { State.reset.port with inFlight := s.port.inFlight, claimHost := s.port.claimHost } }

section
variable (s : State)
@[simp] theorem hostPart_setMem (x : Memory) : (s.setMem x).hostPart = s.hostPart := rfl
@[simp] theorem hostPart_setDecoder (x : Decoder) : (s.setDecoder x).hostPart = s.hostPart := rfl
@[simp] theorem hostPart_setTxn (x : Controller) : (s.setTxn x).hostPart = s.hostPart := rfl
@[simp] theorem hostPart_setTracker (x : List TrackerEntry) : (s.setTracker x).hostPart = s.hostPart := rfl
@[simp] theorem hostPart_setEngine (x : Engine) : (s.setEngine x).hostPart = s.hostPart := rfl
@[simp] theorem hostPart_setControl (x : ControlUnit) : (s.setControl x).hostPart = s.hostPart := rfl
@[simp] theorem hostPart_setCommand (x : CommandPort) : (s.setCommand x).hostPart = s.hostPart := rfl
@[simp] theorem hostPart_setStatus (x : Status) : (s.setStatus x).hostPart = s.hostPart := rfl
@[simp] theorem hostPart_setConfig (x : ConfigUnit) : (s.setConfig x).hostPart = s.hostPart := rfl
@[simp] theorem hostPart_setWarning (x : Bool) : (s.setWarning x).hostPart = s.hostPart := rfl
@[simp] theorem hostPart_setResetting (x : Bool) : (s.setResetting x).hostPart = s.hostPart := rfl
@[simp] theorem hostPart_setFree (x : Nat) : (s.setFree x).hostPart = s.hostPart := rfl
@[simp] theorem hostPart_setPending (x : List Instr) : (s.setPending x).hostPart = s.hostPart := rfl
@[simp] theorem hostPart_claimControl : s.claimControl.hostPart = s.hostPart := rfl
@[simp] theorem hostPart_claimEngine : s.claimEngine.hostPart = s.hostPart := rfl
@[simp] theorem hostPart_withdrawEngine : s.withdrawEngine.hostPart = s.hostPart := rfl

@[simp] theorem hostPart_setJournal (x : Journal) (h : x.append = s.journal.append) :
    (s.setJournal x).hostPart = s.hostPart := by simp [State.hostPart, h]
@[simp] theorem hostPart_setPort (x : Port) (hi : x.inFlight = s.port.inFlight)
    (hc : x.claimHost = s.port.claimHost) : (s.setPort x).hostPart = s.hostPart := by
  simp [State.hostPart, hi, hc]
@[simp] theorem hostPart_beginSequence (k : Sequence) : (beginSequence s k).hostPart = s.hostPart := by
  cases k <;> rfl
@[simp] theorem hostPart_requestSequence (k : Sequence) : (requestSequence s k).hostPart = s.hostPart := by
  unfold requestSequence
  split <;> simp
@[simp] theorem hostPart_raiseEvent (k : EventKind) (d : EventDetail) (a : Option Nat) :
    (raiseEvent s k d a).hostPart = s.hostPart := by simp [State.hostPart]
@[simp] theorem hostPart_updateForNegation : (updateForNegation s).hostPart = s.hostPart := by
  simp [State.hostPart]
@[simp] theorem hostPart_raiseRefusal (r : WriteReason) (a : Addr) :
    (raiseRefusal s r a).hostPart = s.hostPart := by simp [State.hostPart]
@[simp] theorem hostPart_markShort : (markShort s).hostPart = s.hostPart := by simp [State.hostPart]
@[simp] theorem hostPart_offerInsert (g d p : Nat) : (offerInsert s g d p).hostPart = s.hostPart := by
  simp [State.hostPart]
@[simp] theorem hostPart_endExecution (r : Result) (d : ResultDetail) :
    (endExecution s r d).hostPart = s.hostPart := by simp [State.hostPart]
@[simp] theorem hostPart_requestAdvance : (requestAdvance s).hostPart = s.hostPart := by
  unfold requestAdvance
  (repeat' split) <;> simp
@[simp] theorem hostPart_closingEnds : (closingEnds s).hostPart = s.hostPart := by
  simp [closingEnds]
@[simp] theorem hostPart_enterClosing : (enterClosing s).hostPart = s.hostPart := by
  unfold enterClosing
  simp only
  (repeat' split) <;> simp
@[simp] theorem hostPart_engineGoesOn : (engineGoesOn s).hostPart = s.hostPart := by
  unfold engineGoesOn
  (repeat' split) <;> simp
@[simp] theorem hostPart_runAcknowledge : (runAcknowledge s).hostPart = s.hostPart := by
  unfold runAcknowledge
  (repeat' split) <;> simp
@[simp] theorem hostPart_runBegin (q : Half) : (runBegin s q).hostPart = s.hostPart := by
  unfold runBegin
  (repeat' split) <;> simp
@[simp] theorem hostPart_runCommit : (runCommit s).hostPart = s.hostPart := by
  unfold runCommit
  (repeat' split) <;> simp
@[simp] theorem hostPart_cancelSetup : (cancelSetup s).hostPart = s.hostPart := by
  simp [cancelSetup]
@[simp] theorem hostPart_enterSetup (o : SetupOrigin) : (enterSetup s o).hostPart = s.hostPart := by
  simp [enterSetup]
@[simp] theorem hostPart_runSetup : (runSetup s).hostPart = s.hostPart := by
  unfold runSetup
  (repeat' split) <;> simp
@[simp] theorem hostPart_runAdopt : (runAdopt s).hostPart = s.hostPart := by
  unfold runAdopt
  (repeat' split) <;> simp
@[simp] theorem hostPart_runDiscard : (runDiscard s).hostPart = s.hostPart := by
  unfold runDiscard
  (repeat' split) <;> simp
@[simp] theorem hostPart_advanceEpoch (slot : HeaderSlot) (e : Long) (g : Geometry) :
    (advanceEpoch s slot e g).hostPart = s.hostPart := rfl
@[simp] theorem hostPart_discardEnds : (discardEnds s).hostPart = s.hostPart := by
  simp [discardEnds]
@[simp] theorem hostPart_loadConfig (c : Configuration) : (loadConfig s c).hostPart = s.hostPart := rfl
@[simp] theorem hostPart_adoptInstalls : (adoptInstalls s).hostPart = s.hostPart := by
  simp [adoptInstalls]
@[simp] theorem hostPart_loadHeader (x : HeaderSlot) (h : Header) : (loadHeader s x h).hostPart = s.hostPart := by
  simp [loadHeader]
@[simp] theorem hostPart_headerSlotsRead (l : List Byte) : (headerSlotsRead s l).hostPart = s.hostPart := by
  unfold headerSlotsRead
  simp only
  (repeat' split) <;> simp
@[simp] theorem hostPart_loadingEnds (c : Configuration) : (loadingEnds s c).hostPart = s.hostPart := by
  simp [loadingEnds]
@[simp] theorem hostPart_noConfigEnds : (noConfigEnds s).hostPart = s.hostPart := by
  simp [noConfigEnds]
@[simp] theorem hostPart_adoptFails (r : ConfigReason) : (adoptFails s r).hostPart = s.hostPart := by
  simp [adoptFails]
@[simp] theorem hostPart_configSlotRead (x : ConfigSlot) : (configSlotRead s x).hostPart = s.hostPart := by
  unfold configSlotRead
  (repeat' split) <;> simp
@[simp] theorem hostPart_configSlotWritten (x : ConfigSlot) :
    (configSlotWritten s x).hostPart = s.hostPart := by
  cases x <;> simp [configSlotWritten]
@[simp] theorem hostPart_startupFaults : (startupFaults s).hostPart = s.hostPart := by
  simp [startupFaults]
@[simp] theorem hostPart_updateEnds (k : UpdateKind) : (updateEnds s k).hostPart = s.hostPart := by
  simp [State.hostPart]
@[simp] theorem hostPart_sequenceKeeps (k : Sequence) (b : Byte) :
    (sequenceKeeps s k b).hostPart = s.hostPart := by simp [State.hostPart]
@[simp] theorem hostPart_endSequence : (endSequence s).hostPart = s.hostPart := rfl
@[simp] theorem hostPart_continueSequence : (continueSequence s).hostPart = s.hostPart := rfl
end

/-! ### The law between the effects of a step -/

/-- The host port's law before a step's close, which starts the timer of a cycle that is then held (R84): every part
of `HostLaw` but that a held cycle's timer runs. -/
structure HostStands (s : State) : Prop where
  passing  : ∀ c, s.host.cycle = some c → c.isWrite = true → c.passing = true → c.cls.writable = true
  readHeld : ∀ c, s.host.cycle = some c → c.cause = some .pending ∨ c.cause = some .spill → c.isWrite = false
  waits    : ∀ c, s.host.cycle = some c → c.cause = some .memory → s.port.claimHost = true
  granted  : ∀ c, s.host.cycle = some c → c.cause = none → s.port.inFlight = some (passCycle c)
  appends  : ∀ c, s.host.cycle = some c → c.cause = some .append → c.isWrite = true ∧
    ∃ a, s.journal.append = some a ∧ a.addr = c.addr ∧ a.data = c.data
  append   : s.journal.append.isSome = true → ∃ c, s.host.cycle = some c ∧ c.cause = some .append
  claim    : s.port.claimHost = true → s.inFlightFor .host = false ∧
    (s.journal.append.isSome = true ∨ ∃ c, s.host.cycle = some c ∧ c.cause = some .memory)
  inFlight : s.inFlightFor .host = true → s.journal.append.isSome = true ∨
    ∃ c, s.host.cycle = some c ∧ c.cause = none
  timer    : s.host.hold.isSome = true → s.host.cycle.isSome = true
  fault    : s.host.hfault = true → s.host.cycle = none

theorem HostLaw.stands (h : HostLaw s) : HostStands s :=
  ⟨h.passing, h.readHeld, h.waits, h.granted, h.appends, h.append, h.claim, h.inFlight, h.timer, h.fault⟩

theorem hostStands_hostPart (s : State) : HostStands s.hostPart ↔ HostStands s :=
  ⟨fun ⟨a, b, c, d, e, f, g, h, i, j⟩ => ⟨a, b, c, d, e, f, g, h, i, j⟩,
   fun ⟨a, b, c, d, e, f, g, h, i, j⟩ => ⟨a, b, c, d, e, f, g, h, i, j⟩⟩

theorem HostStands.of_hostPart (h : HostStands s) (he : t.hostPart = s.hostPart) : HostStands t :=
  (hostStands_hostPart t).mp (he ▸ (hostStands_hostPart s).mpr h)

/-- The host path has nothing at the memory port: no claim, no append and no cycle in flight. -/
structure HostQuiet (s : State) : Prop where
  claim  : s.port.claimHost = false
  append : s.journal.append = none
  flight : s.inFlightFor .host = false

theorem HostQuiet.of_hostPart (h : HostQuiet s) (he : t.hostPart = s.hostPart) : HostQuiet t := by
  have hp : ∀ u : State, HostQuiet u.hostPart ↔ HostQuiet u :=
    fun u => ⟨fun ⟨a, b, c⟩ => ⟨a, b, c⟩, fun ⟨a, b, c⟩ => ⟨a, b, c⟩⟩
  exact (hp t).mp (he ▸ (hp s).mpr h)

/-- With no cycle in progress the host path is quiet. -/
theorem HostStands.quiet_of_none (h : HostStands s) (hc : s.host.cycle = none) : HostQuiet s := by
  have happend : s.journal.append = none := by
    by_contra hne
    obtain ⟨c, hc', -⟩ := h.append (Option.isSome_iff_ne_none.mpr hne)
    simp [hc] at hc'
  refine ⟨Bool.eq_false_iff.mpr fun hx => ?_, happend, Bool.eq_false_iff.mpr fun hx => ?_⟩
  · simpa [happend, hc] using (h.claim hx).2
  · simpa [happend, hc] using h.inFlight hx

/-- A cycle held for another reason than its memory cycle or its append leaves the host path quiet. -/
theorem HostStands.quiet_of_held (h : HostStands s) {c : HostCycle} (hc : s.host.cycle = some c)
    (hcause : c.cause ≠ some .memory ∧ c.cause ≠ some .append ∧ c.cause ≠ none) : HostQuiet s := by
  have happend : s.journal.append = none := by
    by_contra hne
    obtain ⟨c', hc', ha⟩ := h.append (Option.isSome_iff_ne_none.mpr hne)
    simp_all
  refine ⟨Bool.eq_false_iff.mpr fun hx => ?_, happend, Bool.eq_false_iff.mpr fun hx => ?_⟩
  · simpa [happend, hc, hcause] using (h.claim hx).2
  · simpa [happend, hc, hcause] using h.inFlight hx

/-- A cycle that waits for its memory cycle has a claim and no append. -/
theorem HostStands.waiting (h : HostStands s) {c : HostCycle} (hc : s.host.cycle = some c)
    (hcause : c.cause = some .memory) : HostQuiet s.withdrawHost := by
  have hflight := (h.claim (h.waits c hc hcause)).1
  refine ⟨rfl, ?_, hflight⟩
  by_contra hne
  obtain ⟨c', hc', ha⟩ := h.append (Option.isSome_iff_ne_none.mpr hne)
  simp_all

/-- With the host path quiet and no cycle in progress the law stands. -/
theorem HostQuiet.stands (h : HostQuiet s) (hc : s.host.cycle = none) (hh : s.host.hold = none) :
    HostStands s where
  passing := by simp [hc]
  readHeld := by simp [hc]
  waits := by simp [hc]
  granted := by simp [hc]
  appends := by simp [hc]
  append := by simp [h.append]
  claim := by simp [h.claim]
  inFlight := by simp [h.flight]
  timer := by simp [hh]
  fault := fun _ => hc

/-! ### The end of a host cycle (R68) -/

theorem hostPart_releaseStagedRead (s : State) : (releaseStagedRead s).hostPart = s.hostPart := by
  unfold releaseStagedRead
  split <;> simp

theorem HostQuiet.setHost (h : HostQuiet s) (x : HostPort) : HostQuiet (s.setHost x) :=
  ⟨h.claim, h.append, h.flight⟩

theorem HostQuiet.endNormally (h : HostQuiet s) (hs : s.host.cycle = none → HostStands s) (b : Byte) :
    HostStands (endNormally s b) := by
  unfold Machine.endNormally
  split
  case h_1 hc => exact hs hc
  case h_2 =>
    refine HostStands.of_hostPart ?_ (hostPart_releaseStagedRead _)
    exact (h.setHost _).stands rfl rfl

theorem HostQuiet.endWithFault (h : HostQuiet s) (hs : s.host.cycle = none → HostStands s) :
    HostStands (endWithFault s) := by
  unfold Machine.endWithFault
  split
  case h_1 hc => exact hs hc
  case h_2 =>
    split
    all_goals
      refine HostStands.of_hostPart ?_ (hostPart_releaseStagedRead _)
    · exact (h.setHost _).stands rfl rfl
    · exact ((h.setHost _).of_hostPart (hostPart_setFree _ _)).stands rfl rfl

theorem HostQuiet.faultInStartup (h : HostQuiet s) (hs : s.host.cycle = none → HostStands s) :
    HostStands (faultInStartup s) :=
  HostQuiet.endWithFault (s := s.setStatus _) (h.of_hostPart rfl) fun hc => (hs hc).of_hostPart rfl

theorem HostQuiet.refuseWrite (h : HostQuiet s) (hs : s.host.cycle = none → HostStands s) (r : WriteReason) :
    HostStands (refuseWrite s r) := by
  unfold Machine.refuseWrite
  split
  case h_1 hc => exact hs hc
  case h_2 c hc =>
    refine HostQuiet.endWithFault (h.of_hostPart ?_) fun hn => ?_
    · simp
    · simp [hc] at hn

theorem HostQuiet.expireCycle (h : HostQuiet s) (hs : s.host.cycle = none → HostStands s) :
    HostStands (expireCycle s) := by
  unfold Machine.expireCycle
  split
  case h_1 hc => exact hs hc
  case h_2 c hc =>
    split
    · exact h.faultInStartup hs
    · refine HostQuiet.endWithFault (h.of_hostPart ?_) fun hn => ?_
      · simp only
        split <;> simp
      · simp only at hn
        split at hn <;> simp [hc] at hn

/-! ### A cycle judged (R66 to R80) -/

/-- A write passes only at a class whose writes may reach the memory (R72). -/
theorem writable_of_judge_pass {c : HostCycle} (h : judge s c = .pass) (hw : c.isWrite = true) :
    c.cls.writable = true := by
  rw [judge, if_pos hw] at h
  unfold judgeWrite at h
  split at h
  · unfold judgeWriteInStartup at h
    (repeat' split at h) <;> simp_all [AddrClass.writable]
  · split at h
    · cases h
    · unfold judgeWriteByClass at h
      split at h
      · simp_all [AddrClass.writable]
      · split at h <;> simp_all [AddrClass.writable]
      · cases h
      · cases h
      case h_5 mode g i _ _ => cases mode <;> simp_all [AddrClass.writable]

/-- What a judgement holds a cycle for: a write for COMMITTING or ABORTING, a read for its granule or the abort. -/
theorem cause_of_judge_hold {c : HostCycle} {cause : HoldCause} (h : judge s c = .hold cause) :
    cause ≠ .memory ∧ cause ≠ .append ∧ (cause = .pending ∨ cause = .spill → c.isWrite = false) := by
  unfold judge at h
  split at h
  case isTrue =>
    have hwrite : cause = .commit ∨ cause = .abort := by
      unfold judgeWrite at h
      split at h
      · unfold judgeWriteInStartup at h
        (repeat' split at h) <;> cases h
      · split at h
        · cases h
        · unfold judgeWriteByClass at h
          split at h
          · cases h
          · split at h <;> cases h
          · cases h
          · cases h
          · unfold judgeJournaled judgeFramed judgeUnframed at h
            (repeat' split at h) <;> simp_all
    rcases hwrite with rfl | rfl <;> simp
  case isFalse hread =>
    have hread' : cause = .pending ∨ cause = .spill := by
      unfold judgeRead at h
      (repeat' split at h) <;> simp_all
    rcases hread' with rfl | rfl <;> simpa using hread

/-- A cycle just taken, or taken up again, that is judged: the law stands whatever the judgement. -/
theorem HostQuiet.applyJudge (h : HostQuiet s) {c : HostCycle} (hc : s.host.cycle = some c)
    (hfault : s.host.hfault = false) : HostStands (applyJudgement s (judge s c)) := by
  have hnone : s.host.cycle = none → HostStands s := by simp [hc]
  cases hj : judge s c with
  | fault r => exact h.refuseWrite hnone r
  | startFault => exact h.faultInStartup hnone
  | pass =>
    have hwritable := writable_of_judge_pass hj
    simp only [applyJudgement, claimPass, hc]
    constructor <;> simp [State.claimHost, h.append, State.inFlightFor, hfault]
    · exact fun hw _ => hwritable hw
    · simpa [State.inFlightFor] using h.flight
    · simpa [State.inFlightFor] using h.flight
  | hold cause =>
    obtain ⟨hm, ha, hr⟩ := cause_of_judge_hold hj
    simp only [applyJudgement, holdCycle, hc]
    constructor <;> simp [h.append, h.claim, hm, ha, HostCycle.passing, hfault]
    · exact hr
    · simpa [State.inFlightFor] using h.flight
  | append =>
    obtain ⟨-, -, hwrite, mode, g, i, hcls, -, -⟩ := judge_append hj
    obtain ⟨addr, w, data, cls, cause⟩ := c
    simp only at hwrite hcls
    subst hwrite hcls
    simp only [applyJudgement, startAppend, hc]
    constructor <;> simp [State.claimHost, HostCycle.passing, hfault]
    exact h.flight

theorem HostStands.takeCycle (h : HostStands s) (hc : s.host.cycle = none) (addr : Addr) (w : Bool) (data : Byte) :
    HostStands (takeCycle s addr w data) :=
  HostQuiet.applyJudge ((h.quiet_of_none hc).setHost _) rfl rfl

theorem HostStands.noFault (h : HostStands s) {c : HostCycle} (hc : s.host.cycle = some c) :
    s.host.hfault = false :=
  Bool.eq_false_iff.mpr fun hf => by simp [h.fault hf] at hc

theorem HostQuiet.rejudge (h : HostQuiet s) (hfault : s.host.hfault = false) (c : HostCycle) :
    HostStands (rejudge s c) :=
  HostQuiet.applyJudge (h.setHost _) rfl hfault

/-- A held read passes (R58, R70). -/
theorem HostStands.claimPass (h : HostStands s) {c : HostCycle} (hc : s.host.cycle = some c)
    (hcause : c.cause = some .pending ∨ c.cause = some .spill) : HostStands (claimPass s) := by
  have hq : HostQuiet s := h.quiet_of_held hc (by rcases hcause with hx | hx <;> simp [hx])
  have hread := h.readHeld c hc hcause
  simp only [Machine.claimPass, hc]
  constructor <;> simp [State.claimHost, hq.append, hread, h.noFault hc]
  · exact hq.flight
  · simpa [State.inFlightFor] using hq.flight

theorem HostStands.releaseHeld (h : HostStands s) : HostStands (releaseHeld s) := by
  unfold Machine.releaseHeld
  split
  · exact h
  case h_2 c hc =>
    split
    case h_1 hx => exact HostQuiet.rejudge (h.quiet_of_held hc (by simp [hx])) (h.noFault hc) c
    case h_2 hx => exact HostQuiet.rejudge (h.quiet_of_held hc (by simp [hx])) (h.noFault hc) c
    case h_3 hx => exact h.claimPass hc (.inr hx)
    case h_4 hx => exact h.claimPass hc (.inl hx)
    case h_5 => exact h

theorem HostStands.releaseGranule (h : HostStands s) : HostStands (releaseGranule s) := by
  unfold Machine.releaseGranule
  split
  case h_1 hc =>
    split
    · exact h
    · exact h.claimPass hc (.inl rfl)
  · exact h

/-! ### Appends (R17 to R19) -/

/-- An append that is gone leaves the host path quiet, its cycle no longer in flight. -/
theorem HostStands.abandonAppend (h : HostStands s) (happ : s.journal.append.isSome = true)
    (hflight : s.inFlightFor .host = false) (x : AbandonCause) : HostStands (abandonAppend s x) := by
  obtain ⟨c, hc, -⟩ := h.append happ
  have hquiet : HostQuiet (s.setJournal { s.journal with append := none }).withdrawHost := ⟨rfl, rfl, hflight⟩
  have hcycle : (s.setJournal { s.journal with append := none }).withdrawHost.host.cycle ≠ none := by
    simpa [State.withdrawHost] using Option.ne_none_iff_exists'.mpr ⟨c, hc⟩
  cases x with
  | power => exact hquiet.refuseWrite (fun hn => absurd hn hcycle) .power
  | expiry => exact hquiet.expireCycle fun hn => absurd hn hcycle

/-- An append changes in none of what the law speaks of but its host address and byte. -/
theorem HostStands.setAppend (h : HostStands s) {a : Append} (ha : s.journal.append = some a) (b : Append)
    (hb : b.addr = a.addr ∧ b.data = a.data) (p : List Byte) :
    HostStands (s.setJournal { s.journal with payload := p, append := some b }) := by
  obtain ⟨hp, hr, hw, hg, haps, hap, hcl, hif, ht, hf⟩ := h
  refine ⟨hp, hr, hw, hg, fun c hc hcause => ?_, fun _ => hap (by simp [ha]), fun hx => ⟨(hcl hx).1, .inl rfl⟩,
    fun _ => .inl rfl, ht, hf⟩
  obtain ⟨hwrite, a', ha', haddr, hdata⟩ := haps c hc hcause
  obtain rfl : a = a' := by simpa [ha] using ha'
  exact ⟨hwrite, b, rfl, hb.1.trans haddr, hb.2.trans hdata⟩

theorem HostStands.abandonOn (h : HostStands s) (a : Append) (ha : s.journal.append = some a) (x : AbandonCause) :
    HostStands (abandonOn s a x) := by
  unfold Machine.abandonOn
  split
  · exact h
  · split
    · exact h.setAppend ha { a with abandon := some (a.abandon.getD x) } ⟨rfl, rfl⟩ s.journal.payload
    case isFalse hflight => exact h.abandonAppend (by simp [ha]) (by simpa using hflight) x

/-! ### Hold expiry and the power warning (R81, R85) -/

theorem HostStands.expireHold (h : HostStands s) : HostStands (expireHold s) := by
  unfold Machine.expireHold
  split
  · exact h
  case h_2 c hc =>
    have hheld : c.cause ≠ some .memory ∧ c.cause ≠ some .append ∧ c.cause ≠ none →
        HostStands (Machine.expireCycle s) := fun hx => (h.quiet_of_held hc hx).expireCycle fun _ => h
    split
    case h_1 => exact h
    case h_2 =>
      split
      · exact h
      case h_2 a ha => exact h.abandonOn a ha .expiry
    case h_3 hx => exact (h.waiting hc hx).expireCycle fun hn => by simp [State.withdrawHost, hc] at hn
    all_goals
      rename_i hx
      exact hheld (by simp [hx])

theorem HostQuiet.faultForPower (h : HostQuiet s) (hs : s.host.cycle = none → HostStands s) :
    HostStands (faultForPower s) := by
  unfold Machine.faultForPower
  split
  · exact h.faultInStartup hs
  · exact h.refuseWrite hs .power

theorem HostStands.hostOnWarning (h : HostStands s) : HostStands (hostOnWarning s) := by
  unfold Machine.hostOnWarning
  split
  · exact h
  case h_2 c hc =>
    split
    case isFalse => exact h
    case isTrue =>
      unfold writeUnderWarning
      split
      case h_1 =>
        split
        · exact h
        case h_2 a ha => exact h.abandonOn a ha .power
      case h_2 hx => exact (h.waiting hc hx).faultForPower fun hn => by simp [State.withdrawHost, hc] at hn
      case h_3 hx => exact (h.quiet_of_held hc (by simp [hx])).faultForPower fun _ => h
      all_goals exact h

theorem HostStands.warningAsserts (h : HostStands s) : HostStands (warningAsserts s) := by
  have hreport : HostStands (reportWarning (s.setWarning true)) := by
    unfold reportWarning raiseWarning
    have hs : HostStands (s.setWarning true) := h.of_hostPart rfl
    have hd : HostStands ((s.setWarning true).setFree ((s.setWarning true).free + 1)) := h.of_hostPart rfl
    (repeat' split)
    · exact hd.hostOnWarning.of_hostPart (by simp)
    · exact HostStands.hostOnWarning (hd.of_hostPart (by simp))
    · exact HostStands.hostOnWarning (hs.of_hostPart (by simp))
  refine hreport.of_hostPart ?_
  unfold Machine.warningAsserts engineOnWarning
  split <;> simp

theorem HostStands.warningNegates (h : HostStands s) : HostStands (warningNegates s) := by
  refine h.of_hostPart ?_
  unfold Machine.warningNegates engineResumes
  rw [hostPart_updateForNegation]
  split <;> simp

/-! ### Work that ends, and the held cycle it lifts -/

theorem HostStands.innerAbortEnds (h : HostStands s) : HostStands (innerAbortEnds s) :=
  HostStands.releaseHeld (h.of_hostPart (by simp))

theorem HostStands.truncateJournal (h : HostStands s) : HostStands (truncateJournal s) := by
  unfold Machine.truncateJournal
  split
  · exact h.innerAbortEnds
  · exact h.of_hostPart (by simp)

theorem HostStands.runEnds (h : HostStands s) : HostStands (runEnds s) := by
  have hs : HostStands (s.setEngine { s.engine with run := .idle, cursor := none }) := h.of_hostPart rfl
  unfold Machine.runEnds
  simp only
  split
  case h_1 =>
    split
    · exact hs.truncateJournal
    · exact hs.of_hostPart (by simp)
  case h_2 => exact hs.of_hostPart (by simp)
  all_goals exact hs

theorem HostStands.startRun (h : HostStands s) (n stop : Nat) (target : Target) :
    HostStands (startRun s n stop target) := by
  unfold Machine.startRun
  simp only
  split
  · exact HostStands.runEnds (h.of_hostPart rfl)
  · exact h.of_hostPart (by simp)

theorem HostStands.enterAborting (h : HostStands s) (target stop : Nat) :
    HostStands (enterAborting s target stop) := by
  refine HostStands.startRun ?_ _ _ _
  exact h.of_hostPart rfl

theorem HostStands.runCommand (h : HostStands s) (cmd : Command) (q : Half) : HostStands (runCommand s cmd q) := by
  cases cmd with
  | acknowledge => exact h.of_hostPart (by simp [Machine.runCommand])
  | begin => exact h.of_hostPart (by simp [Machine.runCommand])
  | commit => exact h.of_hostPart (by simp [Machine.runCommand])
  | abort =>
    simp only [Machine.runCommand, runAbort]
    split
    · split
      · exact h.of_hostPart (by simp)
      · exact h.enterAborting _ _
    · exact h.of_hostPart (by simp)
    · exact h.of_hostPart (by simp)
  | unwind =>
    simp only [Machine.runCommand, runUnwind]
    split
    · split
      · exact h.of_hostPart (by simp)
      · exact h.enterAborting _ _
    · exact h.enterAborting _ _
    · exact h.of_hostPart (by simp)
  | setup => exact h.of_hostPart (by simp [Machine.runCommand])
  | adopt => exact h.of_hostPart (by simp [Machine.runCommand])
  | discard => exact h.of_hostPart (by simp [Machine.runCommand])

theorem HostStands.beginExecution (h : HostStands s) (cmd : Command) (q : Half) :
    HostStands (beginExecution s cmd q) := by
  unfold Machine.beginExecution
  simp only
  split
  · exact h.of_hostPart (by simp)
  · refine HostStands.runCommand ?_ cmd q
    exact h.of_hostPart rfl

theorem HostStands.takeStrobe (h : HostStands s) (cmd : Command) : HostStands (takeStrobe s cmd) := by
  unfold Machine.takeStrobe handOver
  simp only
  split
  · exact h.of_hostPart rfl
  · refine HostStands.beginExecution ?_ cmd _
    exact h.of_hostPart rfl

theorem HostStands.epochAdvanceCompletes (h : HostStands s) (slot : HeaderSlot) (e : Long) (g : Geometry) :
    HostStands (epochAdvanceCompletes s slot e g) := by
  have hs : HostStands (advanceEpoch s slot e g) := h.of_hostPart (by simp)
  unfold Machine.epochAdvanceCompletes
  simp only
  generalize advanceEpoch s slot e g = u at hs ⊢
  split
  case h_1 => exact HostStands.releaseHeld (hs.of_hostPart (by simp))
  case h_2 => exact HostStands.releaseHeld (hs.of_hostPart (by simp))
  all_goals exact hs.of_hostPart (by simp)

theorem HostStands.sequenceEnds (h : HostStands s) (l : List Byte) (k : Sequence) :
    HostStands (sequenceEnds s l k) := by
  cases k with
  | headerWrite slot e g => exact h.epochAdvanceCompletes slot e g
  | voidMark => exact h.innerAbortEnds
  | headerRead => exact h.of_hostPart (hostPart_headerSlotsRead s l)
  | configRead slot => exact h.of_hostPart (hostPart_configSlotRead s slot)
  | configWrite slot => exact h.of_hostPart (hostPart_configSlotWritten s slot)
  | scan => exact h
  | update kind => exact h.of_hostPart (hostPart_updateEnds s kind)

theorem HostStands.scanEnds (h : HostStands s) (n : Nat) : HostStands (scanEnds s n) := by
  unfold Machine.scanEnds enterRestoring
  simp only
  split
  · exact h.of_hostPart (by simp)
  · exact HostStands.startRun (h.of_hostPart (by simp)) _ _ _

theorem HostStands.controlCycleEnds (h : HostStands s) (b : Byte) : HostStands (controlCycleEnds s b) := by
  unfold Machine.controlCycleEnds scanGoesOn
  split
  · exact h
  · split
    · exact h.scanEnds _
    · exact h.of_hostPart (by simp)
    · simp only
      split
      · refine HostStands.scanEnds ?_ _
        exact h.of_hostPart rfl
      · exact h.of_hostPart rfl
  · simp only
    split
    · exact HostStands.sequenceEnds (h.of_hostPart (by simp)) _ _
    · exact h.of_hostPart (by simp)

theorem HostStands.restoreFault (h : HostStands s) (r : RestoreReason) (p : Nat) :
    HostStands (restoreFault s r p) := by
  unfold Machine.restoreFault
  simp only
  split
  · exact HostStands.releaseHeld (h.of_hostPart (by simp))
  · exact h.of_hostPart (by simp)
  · exact h.of_hostPart (by simp)

theorem HostStands.engineCycleEnds (h : HostStands s) (b : Byte) : HostStands (engineCycleEnds s b) := by
  unfold Machine.engineCycleEnds recordRead stepCompletes
  simp only
  split
  · split
    · split
      · refine HostStands.restoreFault ?_ _ _
        exact h.of_hostPart rfl
      · exact h.of_hostPart (by simp [engineKeeps])
    · exact h.of_hostPart (by simp [engineKeeps])
  · split
    · have hs : HostStands (Machine.releaseGranule
          (s.setTracker (trackerRemoveIndex s.tracker (s.engine.cursor.getD 0)))) :=
        HostStands.releaseGranule (h.of_hostPart rfl)
      split
      · exact HostStands.runEnds (hs.of_hostPart rfl)
      · exact hs.of_hostPart (by simp)
    · exact h.of_hostPart (by simp)

/-! ### A memory cycle ends (R67, R112) -/

theorem hostPart_landCycle (s : State) (m : MemCycle) :
    (landCycle s m).hostPart = (s.setPort { s.port with inFlight := none }).hostPart := by
  unfold landCycle
  simp only
  split <;> simp

/-- A cycle lands that is no passing host cycle's own. -/
theorem HostStands.land (h : HostStands s) (m : MemCycle)
    (hnot : ∀ c, s.host.cycle = some c → c.cause ≠ none) : HostStands (landCycle s m) := by
  refine HostStands.of_hostPart (s := s.setPort { s.port with inFlight := none }) ?_ (hostPart_landCycle s m)
  exact { h with
    granted := fun c hc hn => absurd hn (hnot c hc)
    claim := fun hx => ⟨rfl, (h.claim hx).2⟩
    inFlight := nofun }

theorem HostStands.claimHost (h : HostStands s) (happ : s.journal.append.isSome = true)
    (hflight : s.inFlightFor .host = false) : HostStands s.claimHost :=
  { h with
    waits := fun _ _ _ => rfl
    claim := fun _ => ⟨hflight, .inl happ⟩ }

theorem HostStands.appendCompletes (h : HostStands s) (a : Append) (ha : s.journal.append = some a)
    (hclaim : s.port.claimHost = false) (hflight : s.inFlightFor .host = false) :
    HostStands (appendCompletes s a) := by
  obtain ⟨c, hc, -⟩ := h.append (by simp [ha])
  unfold Machine.appendCompletes
  refine HostStands.of_hostPart ?_ (hostPart_offerInsert _ _ _ _)
  refine HostQuiet.endNormally ?_ (fun hn => by simp [hc] at hn) 0
  exact ⟨hclaim, rfl, hflight⟩

theorem HostStands.appendGoesOn (h : HostStands s) (a : Append) (ha : s.journal.append = some a)
    (hflight : s.inFlightFor .host = false) (b : Byte) : HostStands (appendGoesOn s a b) := by
  unfold Machine.appendGoesOn
  simp only
  split
  · refine HostStands.abandonAppend ?_ ?_ ?_ _
    · exact h.of_hostPart (hostPart_setJournal _ _ rfl)
    · simp [ha]
    · exact hflight
  · exact (h.setAppend ha { a with progress := a.progress + 1 } ⟨rfl, rfl⟩ _).claimHost rfl hflight

theorem HostStands.cycleEnds (h : HostStands s) (m : MemCycle) (hm : s.port.inFlight = some m) :
    HostStands (cycleEnds s m) := by
  have hother : m.claimant ≠ .host → HostStands (landCycle s m) := fun hwho => h.land m fun c hc hn => by
    obtain rfl : m = passCycle c := by simpa [hm] using h.granted c hc hn
    exact hwho rfl
  unfold Machine.cycleEnds claimantGoesOn
  split
  case h_2 hwho => exact (hother (by simp [hwho])).controlCycleEnds _
  case h_3 hwho => exact (hother (by simp [hwho])).engineCycleEnds _
  case h_1 hwho =>
    have hown : s.inFlightFor .host = true := by simp [State.inFlightFor, hm, hwho]
    have hclaim : s.port.claimHost = false := Bool.eq_false_iff.mpr fun hx => by simp [(h.claim hx).1] at hown
    unfold hostCycleEnds
    split
    case h_1 a ha =>
      have ha' : s.journal.append = some a := by simpa using ha
      obtain ⟨c, hc, hcause⟩ := h.append (by simp [ha'])
      have hland : HostStands (landCycle s m) := h.land m fun c' hc' hn => by simp_all
      split
      · exact hland.appendCompletes a ha (by simpa using hclaim) (by simp)
      · exact hland.appendGoesOn a ha (by simp) _
    case h_2 hnone =>
      have hnone' : s.journal.append = none := by simpa using hnone
      obtain ⟨c, hc, -⟩ := (h.inFlight hown).resolve_left (by simp [hnone'])
      exact HostQuiet.endNormally ⟨by simpa using hclaim, hnone, by simp⟩ (fun hn => by simp [hc] at hn) _

/-! ### The close of a step (R67, R84, R115) -/

/-- A grant to another claimant than the host path. -/
theorem HostStands.grantOther (h : HostStands s) (hfree : s.port.inFlight = none)
    (he : t.hostPart = (s.setPort { s.port with inFlight := t.port.inFlight }).hostPart)
    (hnot : t.inFlightFor .host = false) : HostStands t := by
  refine HostStands.of_hostPart (s := s.setPort { s.port with inFlight := t.port.inFlight }) ?_ he
  exact { h with
    granted := fun c hc hn => by simpa [hfree] using h.granted c hc hn
    claim := fun hx => ⟨hnot, (h.claim hx).2⟩
    inFlight := fun hx => by
      have : t.inFlightFor .host = true := hx
      simp [hnot] at this }

theorem HostStands.grantHost (h : HostStands s) (hclaim : s.port.claimHost = true) : HostStands (grantHost s) := by
  obtain ⟨-, hwork⟩ := h.claim hclaim
  by_cases happ : s.journal.append.isSome = true
  · obtain ⟨c, hc, hcause⟩ := h.append happ
    have hhost : (Machine.grantHost s).host = s.host := by
      unfold Machine.grantHost
      split
      case h_1 hm =>
        obtain rfl := Option.some.inj (hm.symm.trans hc)
        cases hcause
      case h_2 => rfl
    obtain ⟨a, ha⟩ := Option.isSome_iff_exists.mp happ
    obtain ⟨hp, hr, hw, hg, haps, hap, hcl, hif, ht, hf⟩ := h
    constructor <;> simp only [hhost, grantHost_journal]
    · exact hp
    · exact hr
    · exact fun c' hc' hx => by simp_all
    · exact fun c' hc' hx => by simp_all
    · exact haps
    · exact hap
    · simp [grantHost_port]
    · exact fun _ => .inl happ
    · exact ht
    · exact hf
  · obtain ⟨c, hc, hcause⟩ := hwork.resolve_left happ
    have happ' : s.journal.append = none := by simpa using happ
    obtain ⟨addr, w, data, cls, cause⟩ := c
    simp only at hcause
    subst hcause
    have hpassing := h.passing _ hc
    have hgrant : Machine.grantHost s = ((s.setPort { s.port with
        inFlight := some (passCycle ⟨addr, w, data, cls, none⟩), claimHost := false,
        yieldControl := if s.port.claimControl then sat8 s.port.yieldControl else s.port.yieldControl,
        yieldEngine := if s.port.claimEngine then sat8 s.port.yieldEngine else s.port.yieldEngine }).setHost
        { s.host with cycle := some ⟨addr, w, data, cls, none⟩ }) := by
      simp [Machine.grantHost, hc, hostCycle, happ', passCycle]
    rw [hgrant]
    constructor <;> simp [happ', h.noFault hc]
    exact fun hw _ => hpassing hw rfl

theorem HostStands.arbitrate (h : HostStands s) : HostStands (arbitrate s) := by
  rcases arbitrate_cases s with ⟨he, -⟩ | ⟨-, hgrant, he⟩ | ⟨hfree, -, he⟩ | ⟨hfree, -, he⟩ <;> rw [he]
  · exact h
  · exact h.grantHost (by simpa using decideGrant_claims s.port _ hgrant)
  · refine h.grantOther hfree (by simp [State.hostPart, grantControl_port]) ?_
    simp only [State.inFlightFor, grantControl_port, Option.any_eq_false]
    intro m hm
    simp [controlCycle_claimant _ m hm]
  · refine h.grantOther hfree (by simp [State.hostPart, grantEngine_port]) ?_
    simp only [State.inFlightFor, grantEngine_port, Option.any_eq_false]
    intro m hm
    simp [engineCycle_claimant _ m hm]

theorem HostStands.startTimer (h : HostStands s) : HostLaw (startTimer s) := by
  obtain ⟨hp, hr, hw, hg, haps, hap, hcl, hif, ht, hf⟩ := h
  unfold Machine.startTimer
  split
  case h_1 c hc hh =>
    split
    · refine ⟨hp, hr, hw, hg, haps, hap, hcl, hif, fun _ _ _ => rfl, fun _ => ?_, hf⟩
      simp [hc]
    case isFalse hcause =>
      exact ⟨hp, hr, hw, hg, haps, hap, hcl, hif, fun c' hc' hx => by simp_all, ht, hf⟩
  case h_2 hne =>
    refine ⟨hp, hr, hw, hg, haps, hap, hcl, hif, fun c hc _ => ?_, ht, hf⟩
    exact Option.isSome_iff_ne_none.mpr fun hn => hne c hc hn

theorem HostStands.settle (h : HostStands s) : HostLaw (settle s) := h.arbitrate.startTimer

/-! ### Every step -/

theorem StepBody.hostStands (hb : StepBody s t) (h : HostStands s) : HostStands t := by
  cases hb with
  | resetEnds msz high strobe =>
    unfold leaveReset
    simp only
    split <;> exact h.of_hostPart (by simp [raiseWarning, State.hostPart])
  | warns => exact h.warningAsserts
  | negates => exact h.warningNegates
  | takes _ addr w data hc => exact h.takeCycle hc addr w data
  | expires _ timer hh =>
    refine HostStands.expireHold ?_
    exact { h with timer := fun _ => h.timer (by simp [hh]) }
  | takesStrobe _ cmd => exact h.takeStrobe cmd
  | begins _ cmd q => exact h.beginExecution cmd q
  | ends _ m hm => exact h.cycleEnds m hm
  | starts _ k rest => exact h.of_hostPart (by simp)

theorem StepEffect.hostLaw (he : StepEffect s t) (h : HostLaw s) : HostLaw t := by
  cases he with
  | stays => exact h
  | resets => constructor <;> simp [resetBlocks, State.reset, State.inFlightFor]
  | releases => exact { h with fault := by simp }
  | counts _ timer hh => exact { h with held := fun _ _ _ => rfl, timer := fun _ => h.timer hh }
  | sees => exact ⟨h.1, h.2, h.3, h.4, h.5, h.6, h.7, h.8, h.9, h.10, h.11⟩
  | ignores => exact ⟨h.1, h.2, h.3, h.4, h.5, h.6, h.7, h.8, h.9, h.10, h.11⟩
  | closes hb => exact (hb.hostStands h.stands).settle

/-- After the close of a step no claim stands at a free memory port: whatever claims has work to bring there. -/
theorem portLaw_settle (hh : HostStands s) (hw : WorkLaw s) (he : EngineLaw s) : PortLaw (settle s) := by
  intro hnone
  rw [settle_port] at hnone ⊢
  rcases arbitrate_cases s with ⟨heq, hc⟩ | ⟨-, hg, heq⟩ | ⟨-, hg, heq⟩ | ⟨-, hg, heq⟩ <;> rw [heq] at hnone ⊢
  · have hd : decideGrant s.port = none := hc.resolve_left (by simp [hnone])
    exact (decideGrant_none s.port).mp hd
  · exfalso
    obtain ⟨-, ha | ⟨c, hcy, -⟩⟩ := hh.claim (by simpa using decideGrant_claims s.port _ hg)
    · obtain ⟨a, ha⟩ := Option.isSome_iff_exists.mp ha
      simp [grantHost_port, hostCycle, ha] at hnone
    · simp only [grantHost_port, hostCycle, hcy] at hnone
      split at hnone <;> simp_all
  · exfalso
    have hcurrent := hw.controlCycle (.inl (by simpa using decideGrant_claims s.port _ hg))
    have hsome := controlCycle_isSome (captureControl s)
    rw [captureControl_control, hcurrent] at hsome
    simp only [grantControl_port] at hnone
    simp [hnone] at hsome
  · exfalso
    have hrun := hw.engineCycle (.inl (by simpa using decideGrant_claims s.port _ hg))
    obtain ⟨p, hp, -⟩ := he.runCursor (by simp [State.running, hrun])
    simp only [grantEngine_port, engineCycle, hp] at hnone
    split at hnone <;> cases hnone

theorem StepEffect.portLaw (heff : StepEffect s t) (hh : HostLaw s) (hr : ResetLaw s) (hw : WorkLaw s)
    (he : EngineLaw s) (hp : PortLaw s) : PortLaw t := by
  cases heff with
  | stays => exact hp
  | resets => exact fun _ => ⟨rfl, rfl, rfl⟩
  | releases => exact hp
  | counts => exact hp
  | sees => exact hp
  | ignores => exact hp
  | closes hb =>
    have hs : Sound False False False _ := hb.sound hr ⟨hw, he, nofun, nofun, nofun⟩
    exact portLaw_settle (hb.hostStands hh.stands) hs.work hs.engine

end Sys2Proof.Machine

namespace Sys2Proof
open Machine

/-- Settles O11: the host port's law stands between the effects of a step, and its close restores it and grants
what claims. -/
theorem everyStepKeepsTheHostCycleSound : Obligations.EveryStepKeepsTheHostCycleSound := by
  intro s t hh hstep
  obtain ⟨rest, he⟩ := step_effect s t hstep
  have hh' : HostLaw (s.setPending rest) := ⟨hh.1, hh.2, hh.3, hh.4, hh.5, hh.6, hh.7, hh.8, hh.9, hh.10, hh.11⟩
  refine ⟨he.hostLaw hh', fun hr hw hen hp => ?_⟩
  have hs : Sound False False False (s.setPending rest) :=
    Sound.of_workPart ⟨hw, hen, nofun, nofun, nofun⟩ (workPart_setPending s rest)
  exact he.portLaw hh' (resetLaw_setPending hr rest) hs.work hs.engine hp

end Sys2Proof
end

section
/-! SUPPORT. The rows of the command lines and the eight commands. Settles O46 to O55 and O57. -/

namespace Sys2Proof.Machine

variable {s t u : State}

/-! ### What the close of a step and the requests of a command keep -/

/-- The close of a step grants the port and starts a timer, which is none of what a command's frame keeps. -/
theorem commandFrame_settle (s : State) : CommandFrame s (settle s) where
  around  := by constructor <;> simp
  command := by constructor <;> simp
  found   := by simp
  memory  := fun a => by simp
  host    := fun hc => ⟨settle_host_of_none s hc, by constructor <;> simp⟩

theorem commandFrame_endExecution (s : State) (r : Result) (d : ResultDetail) :
    CommandFrame s (endExecution s r d) where
  around  := by constructor <;> simp
  command := by constructor <;> simp
  found   := by simp
  memory  := fun a => by simp
  host    := fun _ => ⟨by simp, by constructor <;> simp⟩

theorem commandFrame_requestSequence (s : State) (k : Sequence) : CommandFrame s (requestSequence s k) where
  around  := by constructor <;> simp
  command := by constructor <;> simp
  found   := by simp
  memory  := fun a => by simp
  host    := fun _ => ⟨by simp, by constructor <;> simp⟩

/-- An epoch advance asks for the read of both header slots, or for the write of one. -/
theorem requestAdvance_eq (s : State) : ∃ k, requestAdvance s = requestSequence s k ∧
    (k = .headerRead ∨ ∃ x e g, k = .headerWrite x e g) := by
  unfold requestAdvance headerAfter
  split
  · exact ⟨_, rfl, .inr ⟨_, _, _, rfl⟩⟩
  · split
    · exact ⟨_, rfl, .inr ⟨_, _, _, rfl⟩⟩
    · exact ⟨_, rfl, .inl rfl⟩

theorem commandFrame_requestAdvance (s : State) : CommandFrame s (requestAdvance s) := by
  obtain ⟨k, hk, -⟩ := requestAdvance_eq s
  exact hk ▸ commandFrame_requestSequence s k

/-- A held cycle that is lifted reports and counts, which a command's frame keeps only where none is in progress. -/
theorem commandFrame_releaseHeld (s : State) : CommandFrame s (releaseHeld s) where
  around  := by constructor <;> simp
  command := by constructor <;> simp
  found   := by simp
  memory  := fun a => by simp
  host    := fun hc => by
    have : releaseHeld s = s := by simp [releaseHeld, hc]
    rw [this]
    exact ⟨rfl, rfl, rfl, rfl⟩

/-- A cycle no cause of which is lifted at an end is left as it is there. -/
theorem releaseHeld_of_noneToLift (h : s.NoneToLift) : releaseHeld s = s := by
  unfold releaseHeld
  split
  · rfl
  case h_2 c hc =>
    split
    case h_5 => rfl
    all_goals
      rename_i hx
      cases h c _ hc hx

/-- Only a slot's read or write resets an item of the configuration unit as it begins (R155). -/
theorem requestSequence_config (s : State) (k : Sequence) (h : ∀ x, k ≠ .configRead x ∧ k ≠ .configWrite x) :
    (requestSequence s k).config = s.config := by
  unfold requestSequence
  split
  · cases k with
    | configRead x => exact absurd rfl (h x).1
    | configWrite x => exact absurd rfl (h x).2
    | _ => rfl
  · rfl

theorem requestAdvance_config (s : State) : (requestAdvance s).config = s.config := by
  obtain ⟨k, hk, rfl | ⟨x, e, g, rfl⟩⟩ := requestAdvance_eq s <;>
    exact hk ▸ requestSequence_config s _ (by simp)

/-- An epoch advance outside start-up asks for the header that follows the current one, or for the read of both
slots (R14, R15). -/
theorem requestAdvance_sequences (hop : s.txn.op.isStartup = false) (ha : s.config.adopting = false)
    {k : Configuration} (hk : s.config.loaded = some k) :
    (requestAdvance s).sequences = s.sequences ++ [advanceFrom s.journal.slot s.journal.epoch k] := by
  have hgeometry : advanceGeometry s = configGeometry k := by simp [advanceGeometry, ha, hk]
  unfold requestAdvance
  split
  case h_1 slot hslot =>
    rw [requestSequence_sequences, hslot, hgeometry]
    rfl
  case h_2 hslot =>
    rw [if_neg (by simp [hop]), requestSequence_sequences, hslot]
    rfl

/-! ### Refusals (R127, Table 7-5) -/

/-- A due command that only ends its execution ends at once. -/
theorem endsAtOnce_of_beginExecution {cmd : Command} {q : Half} {r : Result} {d : ResultDetail}
    (h : CommandDue s cmd q) (he : beginExecution s cmd q = endExecution s.inExecution r d) :
    EndsAtOnce s (settle (beginExecution s cmd q)) cmd q r d := by
  rw [he]
  have hend := endsAtOnce_settle_endExecution s.inExecution cmd q r d h.flight
  exact { hend with frame := (commandFrame_inExecution s).trans hend.frame }

/-- A command whose state or depth refuses it ends with the outcome of Table 7-5. -/
theorem runCommand_refused {cmd : Command} {r : Result} (h : cmd.refusal s.txn.op s.depth = some r) (q : Half) :
    runCommand s cmd q = endExecution s r (.number 0) := by
  have hnil : s.depth = 0 → s.txn.frames = [] := List.eq_nil_of_length_eq_zero
  cases cmd <;> cases hop : s.txn.op <;> simp only [Command.refusal, hop] at h <;> (try split at h) <;>
    simp_all [runCommand, runBegin, runCommit, runAbort, runUnwind, runSetup, runAdopt, runDiscard]

/-! ### The commands that end at once -/

/-- A due command that ends its execution in a state made from the one it began in. -/
theorem endsAtOnce_settle_of_due (u : State) {cmd : Command} {q : Half} (h : CommandDue s cmd q)
    (hu : u.command = s.command) (r : Result) (d : ResultDetail) :
    EndsAtOnce u (settle (endExecution u r d)) cmd q r d :=
  endsAtOnce_settle_endExecution u cmd q r d (hu ▸ h.flight)

/-- The merge of the top depth into the depth below (R54). -/
theorem mem_trackerMerge_iff (l : List TrackerEntry) (d : Nat) (e : TrackerEntry) :
    e ∈ trackerMerge l d ↔ (e ∈ l ∧ e.depth ≠ d) ∨
      (e.depth = d - 1 ∧ { e with depth := d } ∈ l ∧ ∀ e' ∈ l, ¬(e'.granule = e.granule ∧ e'.depth = d - 1)) := by
  have hhit : ∀ g, trackerHit l g (d - 1) = false ↔ ∀ e' ∈ l, ¬(e'.granule = g ∧ e'.depth = d - 1) := fun g => by
    simp [trackerHit]
  constructor
  · intro he
    simp only [trackerMerge, List.mem_filterMap, mergeEntry] at he
    obtain ⟨x, hx, hm⟩ := he
    split at hm
    case isTrue hdx =>
      split at hm
      · cases hm
      case isFalse hno =>
        obtain rfl := Option.some.inj hm
        refine .inr ⟨rfl, ?_, (hhit _).mp (by simpa using hno)⟩
        obtain ⟨g, dx, i, p⟩ := x
        simp only at hdx
        rwa [hdx] at hx
    case isFalse hdx =>
      obtain rfl := Option.some.inj hm
      exact .inl ⟨hx, hdx⟩
  · rintro (⟨he, hne⟩ | ⟨hd', he, hno⟩)
    · exact List.mem_filterMap.mpr ⟨e, he, by simp [mergeEntry, hne]⟩
    · refine List.mem_filterMap.mpr ⟨_, he, ?_⟩
      obtain ⟨g, de, i, p⟩ := e
      simp only at hd'
      simp [mergeEntry, (hhit g).mpr hno, hd']

/-! ### The commands that begin work -/

/-- What an epoch advance asked for by a command leaves, after the close of the step. -/
theorem settle_requestAdvance_items (u : State) :
    let t := settle (requestAdvance u)
    t.txn = u.txn ∧ t.journal = u.journal ∧ t.tracker = u.tracker ∧ t.engine = u.engine ∧ t.config = u.config ∧
      t.status.queue = u.status.queue ∧ t.status.dropped = u.status.dropped ∧
      t.sequences = (requestAdvance u).sequences := by
  refine ⟨by simp, by simp, by simp, by simp, by simp [requestAdvance_config], ?_, ?_, by simp [State.sequences]⟩ <;>
    (obtain ⟨k, hk, -⟩ := requestAdvance_eq u; simp [hk])

/-- The state in which an abort's run starts: ABORTING, with the pending marks and the engine's items (R35, R57,
R91). -/
def State.abortEntered (s : State) (target stop : Nat) : State :=
  ((s.setTxn { s.txn with op := .aborting }).setTracker (trackerMark s.tracker target)).setEngine
    { s.engine with stop := stop, target := .depth target, count := 0, reason := none, reads := 0, writes := 0 }

section
variable (s : State) (target stop : Nat)
@[simp] theorem abortEntered_txn : (s.abortEntered target stop).txn = { s.txn with op := .aborting } := rfl
@[simp] theorem abortEntered_tracker : (s.abortEntered target stop).tracker = trackerMark s.tracker target := rfl
@[simp] theorem abortEntered_journal : (s.abortEntered target stop).journal = s.journal := rfl
@[simp] theorem abortEntered_config : (s.abortEntered target stop).config = s.config := rfl
@[simp] theorem abortEntered_status : (s.abortEntered target stop).status = s.status := rfl
@[simp] theorem abortEntered_control : (s.abortEntered target stop).control = s.control := rfl
@[simp] theorem abortEntered_warning : (s.abortEntered target stop).warning = s.warning := rfl
@[simp] theorem abortEntered_engine : (s.abortEntered target stop).engine =
    { s.engine with stop := stop, target := .depth target, count := 0, reason := none, reads := 0, writes := 0 } := rfl
end

theorem commandFrame_abortEntered (s : State) (target stop : Nat) : CommandFrame s (s.abortEntered target stop) :=
  ⟨⟨rfl, rfl, rfl, rfl, rfl, rfl, rfl⟩, ⟨rfl, rfl, rfl, rfl⟩, ⟨rfl, rfl, rfl⟩, fun _ => rfl,
    fun _ => ⟨rfl, rfl, rfl, rfl⟩⟩

theorem commandFrame_setEngine (s : State) (x : Engine) : CommandFrame s (s.setEngine x) :=
  ⟨⟨rfl, rfl, rfl, rfl, rfl, rfl, rfl⟩, ⟨rfl, rfl, rfl, rfl⟩, ⟨rfl, rfl, rfl⟩, fun _ => rfl,
    fun _ => ⟨rfl, rfl, rfl, rfl⟩⟩

theorem commandFrame_claimEngine (s : State) : CommandFrame s s.claimEngine :=
  ⟨⟨rfl, rfl, rfl, rfl, rfl, rfl, rfl⟩, ⟨rfl, rfl, rfl, rfl⟩, ⟨rfl, rfl, rfl⟩, fun _ => rfl,
    fun _ => ⟨rfl, rfl, rfl, rfl⟩⟩

/-- With records to restore ABORTING begins its run. -/
theorem enterAborting_of_lt {target stop : Nat} (h : stop < s.journal.n) (hw : s.warning = false) :
    enterAborting s target stop = ((s.abortEntered target stop).setEngine
      { (s.abortEntered target stop).engine with cursor := some (s.journal.n - 1), run := .running }).claimEngine := by
  have hn : ¬(s.abortEntered target stop).journal.n ≤ stop := by simpa using h
  have hw' : ¬(s.abortEntered target stop).warning = true := by simp [hw]
  exact (if_neg hn).trans (if_neg hw')

/-- The state in which an abort's run has ended: the engine IDLE with no cursor (R98). -/
def State.runEnded (s : State) : State := s.setEngine { s.engine with run := .idle, cursor := none }

/-- An abort with no record to restore ends its run at once: of an inner frame the abort ends, and otherwise the
epoch advance is asked for (R37, R38, R91). -/
theorem enterAborting_of_le {target stop : Nat} (h : s.journal.n ≤ stop) :
    enterAborting s target stop =
      if 2 ≤ target then innerAbortEnds (s.abortEntered target stop).runEnded
      else requestAdvance (s.abortEntered target stop).runEnded := by
  have hn : (s.abortEntered target stop).journal.n ≤ stop := h
  exact if_pos hn

/-- An abort whose run begins, after the close of the step. -/
theorem abortBegins (s : State) (hw : s.warning = false) {target stop : Nat} (h : stop < s.journal.n) :
    let t := settle (enterAborting s.inExecution target stop)
    CommandFrame s t ∧ t.journal = s.journal ∧ t.config = s.config ∧ t.status.queue = s.status.queue ∧
      t.status.dropped = s.status.dropped ∧ t.txn = { s.txn with op := .aborting, stage := .executing } ∧
      t.tracker = trackerMark s.tracker target ∧ RunBegun s t s.journal.n stop (.depth target) ∧
      t.sequences = s.sequences := by
  simp only [enterAborting_of_lt (s := s.inExecution) h hw]
  generalize hx : ({ (s.inExecution.abortEntered target stop).engine with
    cursor := some (s.inExecution.journal.n - 1), run := .running } : Engine) = x
  have hengine : x = { s.engine with
      run := .running, cursor := some (s.journal.n - 1), stop := stop, target := .depth target, count := 0,
      reason := none, reads := 0, writes := 0 } := hx.symm
  refine ⟨(commandFrame_inExecution s).trans ((commandFrame_abortEntered _ _ _).trans
    ((commandFrame_setEngine _ x).trans ((commandFrame_claimEngine _).trans (commandFrame_settle _)))), ?_, ?_, ?_, ?_,
    ?_, ?_, ⟨?_, fun _ => ?_⟩, ?_⟩
  case refine_7 => simp [State.claimEngine, hengine, hw]
  case refine_8 =>
    have := arbitrate_engine_claim ((s.inExecution.abortEntered target stop).setEngine x).claimEngine rfl
      (by simp [State.claimEngine, hengine])
    simpa [State.inFlightFor] using this
  all_goals simp [State.claimEngine, State.inExecution, State.sequences]

/-- An abort of target depth 1 with no record to restore asks for the epoch advance. -/
theorem outerAbortAdvances (s : State) {stop : Nat} (h : s.journal.n ≤ stop) :
    let t := settle (enterAborting s.inExecution 1 stop)
    CommandFrame s t ∧ t.journal = s.journal ∧ t.config = s.config ∧ t.status.queue = s.status.queue ∧
      t.status.dropped = s.status.dropped ∧ t.txn = { s.txn with op := .aborting, stage := .executing } ∧
      t.tracker = trackerMark s.tracker 1 ∧ t.engine.run = .idle ∧ t.engine.cursor = none ∧
      (s.config.adopting = false → ∀ k, s.config.loaded = some k →
        t.sequences = s.sequences ++ [advanceFrom s.journal.slot s.journal.epoch k]) := by
  have hv : enterAborting s.inExecution 1 stop = requestAdvance (s.inExecution.abortEntered 1 stop).runEnded :=
    (enterAborting_of_le (s := s.inExecution) h).trans (if_neg (by decide))
  obtain ⟨htxn, hjournal, htracker, hengine, hconfig, hqueue, hdropped, hsequences⟩ :=
    settle_requestAdvance_items (s.inExecution.abortEntered 1 stop).runEnded
  simp only [hv]
  refine ⟨(commandFrame_inExecution s).trans ((commandFrame_abortEntered _ _ _).trans
    ((commandFrame_setEngine _ _).trans ((commandFrame_requestAdvance _).trans (commandFrame_settle _)))), hjournal,
    hconfig, hqueue, hdropped, htxn, htracker, by rw [hengine]; rfl, by rw [hengine]; rfl, fun ha k hk => ?_⟩
  rw [hsequences]
  exact requestAdvance_sequences (s := (s.inExecution.abortEntered 1 stop).runEnded) rfl ha hk

/-- The state in which the execution of an inner abort ends: READY without the top frame and its entries (R37,
R56). -/
def State.topRemoved (s : State) : State :=
  (s.setTracker (trackerRemoveDepth s.tracker s.engine.target.level)).setTxn
    { s.txn with frames := s.txn.frames.tail, op := .ready }

theorem innerAbortEnds_eq (s : State) :
    innerAbortEnds s = releaseHeld (endExecution s.topRemoved .done (.number s.engine.count)) := rfl

theorem commandFrame_topRemoved (s : State) : CommandFrame s s.topRemoved :=
  ⟨⟨rfl, rfl, rfl, rfl, rfl, rfl, rfl⟩, ⟨rfl, rfl, rfl, rfl⟩, ⟨rfl, rfl, rfl⟩, fun _ => rfl,
    fun _ => ⟨rfl, rfl, rfl, rfl⟩⟩

/-- An inner abort with no record to restore ends at once, and with no cycle to lift it does nothing else. -/
theorem innerAbortAtOnce {q : Half} {f : Frame} (h : CommandDue s .abort q) (hge : s.journal.n ≤ f.start)
    (hdepth : 2 ≤ s.depth) :
    let t := settle (enterAborting s.inExecution s.depth f.start)
    CommandFrame s t ∧ (s.NoneToLift →
      EndsAtOnce (s.inExecution.abortEntered s.depth f.start).runEnded.topRemoved t .abort q .done (.number 0)) := by
  have hv : enterAborting s.inExecution s.depth f.start =
      innerAbortEnds (s.inExecution.abortEntered s.depth f.start).runEnded :=
    (enterAborting_of_le (s := s.inExecution) hge).trans (if_pos hdepth)
  simp only [hv]
  refine ⟨(commandFrame_inExecution s).trans ((commandFrame_abortEntered _ _ _).trans
    ((commandFrame_setEngine _ _).trans ((commandFrame_topRemoved _).trans ((commandFrame_endExecution _ _ _).trans
    ((commandFrame_releaseHeld _).trans (commandFrame_settle _)))))), fun hl => ?_⟩
  have hcount : (s.inExecution.abortEntered s.depth f.start).runEnded.engine.count = 0 := rfl
  rw [innerAbortEnds_eq, hcount]
  generalize hu : (s.inExecution.abortEntered s.depth f.start).runEnded.topRemoved = u
  have hhost : u.host = s.host := by rw [← hu]; rfl
  have hcommand : u.command = s.command := by rw [← hu]; rfl
  rw [releaseHeld_of_noneToLift (by rw [State.NoneToLift, endExecution_host, hhost]; exact hl)]
  exact endsAtOnce_settle_of_due u h hcommand _ _

/-- ADOPT in SETUP executes from its beginning on, and reads the staged slot once no write of it is on its way. -/
theorem adopt_begins (s : State) (q : Half) (hw : s.warning = false) (hop : s.txn.op = .setup) :
    let t := settle (beginExecution s .adopt q)
    CommandFrame s t ∧
        t.txn = { s.txn with stage := .executing } ∧ t.config.adopting = true ∧
        t.config.origin = s.config.origin ∧ t.journal = s.journal ∧ t.tracker = s.tracker ∧
        t.engine = s.engine ∧ t.status.queue = s.status.queue ∧ t.status.dropped = s.status.dropped ∧
        (s.stagedWork = false → t.sequences = s.sequences ++ [.configRead .staged]) ∧
        (s.stagedWork = true → t.sequences = s.sequences ∧ t.config.readWaits = true) := by
  have hop' : s.inExecution.txn.op = .setup := hop
  have hrun : beginExecution s .adopt q = runAdopt s.inExecution := beginExecution_warning_negated s .adopt q hw
  have hsettle := fun v : State => congrArg (fun c => c.current.toList ++ c.waiting) (settle_control v)
  cases hwork : s.stagedWork with
  | true =>
    have hwork' : s.inExecution.stagedWork = true := hwork
    have hu : beginExecution s .adopt q =
        s.inExecution.setConfig { s.inExecution.config with adopting := true, readWaits := true } := by
      rw [hrun, runAdopt, hop']
      exact if_pos hwork'
    have hframe := commandFrame_setTxn_setConfig s s.inExecution.txn
      { s.config with adopting := true, readWaits := true } ⟨rfl, rfl, rfl⟩ rfl
    rw [hu]
    exact ⟨hframe.trans (commandFrame_settle _), by simp [State.inExecution], by simp, by simp [State.inExecution],
      by simp [State.inExecution], by simp [State.inExecution], by simp [State.inExecution],
      by simp [State.inExecution], by simp [State.inExecution], nofun, fun _ => ⟨hsettle _, by simp⟩⟩
  | false =>
    have hwork' : ¬s.inExecution.stagedWork = true := fun hx => by
      have : s.stagedWork = true := hx
      simp [hwork] at this
    have hu : beginExecution s .adopt q =
        requestSequence (s.inExecution.setConfig { s.inExecution.config with adopting := true })
          (.configRead .staged) := by
      rw [hrun, runAdopt, hop']
      exact if_neg hwork'
    have hframe := commandFrame_setTxn_setConfig s s.inExecution.txn { s.config with adopting := true }
      ⟨rfl, rfl, rfl⟩ rfl
    rw [hu]
    refine ⟨hframe.trans ((commandFrame_requestSequence _ _).trans (commandFrame_settle _)),
      by simp [State.inExecution], by simp, by simp [State.inExecution], by simp [State.inExecution],
      by simp [State.inExecution], by simp [State.inExecution], by simp [State.inExecution],
      by simp [State.inExecution], fun _ => (hsettle _).trans ?_, nofun⟩
    exact requestSequence_sequences _ _

/-- DISCARD in FAULTED asks for the epoch advance. -/
theorem discard_begins (s : State) (q : Half) (hw : s.warning = false) (hop : s.txn.op = .faulted) :
    let t := settle (beginExecution s .discard q)
    CommandFrame s t ∧ t.txn = { s.txn with stage := .executing } ∧ t.journal = s.journal ∧ t.tracker = s.tracker ∧
      t.engine = s.engine ∧ t.config = s.config ∧ t.status.queue = s.status.queue ∧
      t.status.dropped = s.status.dropped ∧ (s.config.adopting = false → ∀ k, s.config.loaded = some k →
        t.sequences = s.sequences ++ [advanceFrom s.journal.slot s.journal.epoch k]) := by
  have hop' : s.inExecution.txn.op = .faulted := hop
  have hrun : beginExecution s .discard q = requestAdvance s.inExecution := by
    rw [beginExecution_warning_negated s .discard q hw, runCommand, runDiscard, hop']
  obtain ⟨htxn, hjournal, htracker, hengine, hconfig, hqueue, hdropped, hsequences⟩ :=
    settle_requestAdvance_items s.inExecution
  rw [hrun]
  refine ⟨(commandFrame_inExecution s).trans ((commandFrame_requestAdvance _).trans (commandFrame_settle _)), htxn,
    hjournal, htracker, hengine, hconfig, hqueue, hdropped, fun ha k hk => hsequences.trans ?_⟩
  exact requestAdvance_sequences (s := s.inExecution) (by rw [hop']; rfl) ha hk

end Sys2Proof.Machine

namespace Sys2Proof
open Machine

/-- Settles O47: the row gives its command, which begins when it is due and is otherwise taken or left. -/
theorem commandRowsGiveTheirCommand : Obligations.CommandRowsGiveTheirCommand := by
  intro s cmd hr
  refine ⟨fun q h => ?_, fun hnone hbusy code hcode => ?_, fun hnone hbusy => ?_, fun other q hflight hne => ?_⟩
  · rw [exec_commandRow_due s cmd q h, exec_commandExecutionBegin_due s cmd q h]
  · rw [exec_commandRow]
    have hgive : giveCommand s cmd = settle (takeStrobe s cmd) := by simp [giveCommand, hnone, hbusy]
    have hedge : exec (.strobeTaken ⟨code, true⟩) (s.setCommand { s.command with strobe := false }) =
        .next (settle (takeStrobe (s.setCommand { s.command with strobe := false }) cmd)) := by
      simp [exec, execStrobeTaken, unlessResetting, hr, seeStrobe, risingEdge, hbusy, hcode]
    rw [hedge, unlessResetting, if_neg (by simp [hr]), hgive]
    rfl
  · simp [exec_commandRow, unlessResetting, giveCommand, hnone, hbusy]
  · simp [exec_commandRow, unlessResetting, giveCommand, hflight, hne]

/-- Settles O46, by the level seen, the level before it and the busy flag. -/
theorem strobeIsTakenOrIgnored : Obligations.StrobeIsTakenOrIgnored := by
  refine ⟨by decide, fun s code hr => ?_⟩
  have htaken : ∀ high, exec (.strobeTaken ⟨code, high⟩) s = .next (seeStrobe s high (risingEdge s code)) :=
    fun high => by simp [exec, execStrobeTaken, unlessResetting, hr]
  have hignored : exec .strobeIgnored s =
      .next (seeStrobe s true (if s.command.busy then ignoreStrobe s else s)) := by
    simp [exec, execStrobeIgnored, unlessResetting, hr]
  refine ⟨fun hlow hbusy hfree => ?_, fun hlow hbusy hwork => ?_, fun hlow hbusy => ?_, fun hlow hbusy => ?_,
    fun high hno => ?_, fun hhigh => ?_⟩
  · let q := s.command.seq + 1
    let w := (s.setCommand { s.command with
      busy := true, seq := q, strobe := true, inFlight := some (commandOf code, q) }).setTxn
      { s.txn with stage := .waiting }
    have hedge : exec (.strobeTaken ⟨code, true⟩) s = .next (settle (takeStrobe s (commandOf code))) := by
      simp [htaken, seeStrobe, hlow, risingEdge, hbusy]
    have htake : takeStrobe s (commandOf code) = beginExecution w (commandOf code) q := by
      have hfree' : (s.setCommand { s.command with
          busy := true, seq := q, inFlight := some (commandOf code, q), strobe := true }).journaledWork = false :=
        hfree
      simp only [takeStrobe, handOver]
      rw [if_neg (by simpa [q] using hfree')]
      rfl
    have hframe := commandFrame_settle (beginExecution w (commandOf code) q)
    refine ⟨?_, _, hedge, ?_, ?_, ?_⟩
    · rw [hedge, htake]
      exact (exec_commandExecutionBegin_due w (commandOf code) q ⟨hr, rfl, rfl, hfree⟩).symm
    all_goals rw [htake]
    · simp [State.cbusy, w]
    · simp [w, q]
    · simp [w]
  · refine ⟨settle (takeStrobe s (commandOf code)), by simp [htaken, seeStrobe, hlow, risingEdge, hbusy], ?_⟩
    have htake : takeStrobe s (commandOf code) = (s.setCommand { s.command with
        busy := true, seq := s.command.seq + 1, inFlight := some (commandOf code, s.command.seq + 1),
        strobe := true }).setTxn { s.txn with stage := .waiting } := by
      have hwork' : (s.setCommand { s.command with
          busy := true, seq := s.command.seq + 1, inFlight := some (commandOf code, s.command.seq + 1),
          strobe := true }).journaledWork = true := hwork
      simp only [takeStrobe, handOver]
      rw [if_pos hwork']
      rfl
    have hframe := commandFrame_settle (takeStrobe s (commandOf code))
    rw [htake] at hframe ⊢
    refine ⟨by simp, by simp, by simp, by simp, by simp, by simp [State.sequences], by simp, by simp, by simp,
      by simp, by constructor <;> simp, by constructor <;> simp, fun a => by simp⟩
  · exact ⟨_, by simp [hignored, seeStrobe, hlow, hbusy, ignoreStrobe],
      by simp [htaken, seeStrobe, hlow, risingEdge, hbusy, ignoreStrobe], rfl⟩
  · simp [hignored, seeStrobe, hlow, hbusy]
  · refine ⟨_, ?_, rfl⟩
    rcases hno with rfl | hhigh
    · simp [htaken, seeStrobe]
    · simp [htaken, seeStrobe, hhigh]
  · have hcommand : ({ s.command with strobe := true } : CommandPort) = s.command := by rw [← hhigh]
    rw [hignored, seeStrobe_stays s true _ hhigh, hcommand]
    rfl

/-- Settles O48. -/
theorem powerWarningRefusesCommands : Obligations.PowerWarningRefusesCommands := fun s cmd q h hw hne =>
  ⟨_, exec_commandRow_due s cmd q h, exec_commandExecutionBegin_due s cmd q h,
    endsAtOnce_warning_asserted s cmd q h hw hne⟩

/-- Settles O49: a refused command only ends its execution. -/
theorem commandsAreRefusedByStateAndDepth : Obligations.CommandsAreRefusedByStateAndDepth := by
  intro s cmd q r h hw _ hr
  refine ⟨_, exec_commandRow_due s cmd q h, exec_commandExecutionBegin_due s cmd q h,
    endsAtOnce_of_beginExecution h ?_⟩
  rw [beginExecution_warning_negated s cmd q hw]
  exact runCommand_refused (s := s.inExecution) hr q

/-- Settles O50, by whether the queue holds an entry. -/
theorem acknowledgeRemovesTheOldestEntry : Obligations.AcknowledgeRemovesTheOldestEntry := by
  intro s q h
  have hbegin : beginExecution s .acknowledge q = runAcknowledge s.inExecution := by
    simp [beginExecution, State.inExecution, runCommand]
  refine ⟨_, exec_commandRow_due s .acknowledge q h, exec_commandExecutionBegin_due s .acknowledge q h,
    fun hq => ?_, fun oldest rest hq => ?_⟩
  · refine endsAtOnce_of_beginExecution h ?_
    rw [hbegin]
    simp [runAcknowledge, State.inExecution, hq]
  · let u := s.inExecution.setStatus { s.status with
      queue := rest, dropped := if rest = [] then 0 else s.status.dropped }
    have hrun : beginExecution s .acknowledge q = endExecution u .done (.number rest.length) := by
      rw [hbegin]
      simp [runAcknowledge, State.inExecution, hq, u]
    rw [hrun]
    have hend := endsAtOnce_settle_of_due u h rfl .done (.number rest.length)
    have hframe : CommandFrame s u := ⟨⟨rfl, rfl, rfl, rfl, rfl, rfl, rfl⟩, ⟨rfl, rfl, rfl, rfl⟩,
      ⟨rfl, rfl, rfl⟩, fun _ => rfl, fun _ => ⟨rfl, rfl, rfl, rfl⟩⟩
    exact ⟨hend.queue, hend.dropped, hend.txn, hend.sequences, hend.journal, hend.tracker, hend.engine, hend.config,
      hframe.trans hend.frame⟩

/-- Settles O51. -/
theorem beginOpensAFrame : Obligations.BeginOpensAFrame := by
  intro s q h hw hop hdepth
  let u := s.inExecution.setTxn { s.inExecution.txn with frames := Frame.mk s.journal.n false false q :: s.txn.frames }
  have hrun : beginExecution s .begin q = endExecution u .done (.number 0) := by
    have hdepth' : s.inExecution.depth < 8 := Nat.lt_succ_of_le hdepth
    have hop' : s.inExecution.txn.op = .ready := hop
    rw [beginExecution_warning_negated s .begin q hw]
    simp only [runCommand, runBegin, hop', if_pos hdepth', u]
    rfl
  refine ⟨_, exec_commandRow_due s .begin q h, exec_commandExecutionBegin_due s .begin q h, ?_⟩
  rw [hrun]
  have hend := endsAtOnce_settle_of_due u h rfl .done (.number 0)
  have hframe : CommandFrame s u := commandFrame_setTxn_setConfig s u.txn u.config ⟨rfl, rfl, rfl⟩ rfl
  refine ⟨?_, hend.txn, hend.sequences, hend.journal, hend.tracker, hend.engine, hend.config, hend.queue,
    hend.dropped, hframe.trans hend.frame⟩
  rw [State.depth, hend.txn]
  rfl

/-- Settles O55, by the state SETUP is entered from. -/
theorem setupIsEntered : Obligations.SetupIsEntered := by
  intro s q h hw hwhere
  let u := (s.inExecution.setTxn { s.inExecution.txn with op := .setup }).setConfig { s.config with
    origin := if s.txn.op = .ready then some .ready
      else if s.txn.op = .unconfigured then some .unconfigured else s.config.origin }
  have hrun : beginExecution s .setup q = endExecution u .done (.number 0) := by
    rw [beginExecution_warning_negated s .setup q hw]
    rcases hwhere with ⟨hop, hdepth⟩ | hop | hop
    · have hdepth' : s.inExecution.depth = 0 := hdepth
      have hop' : s.inExecution.txn.op = .ready := hop
      simp only [runCommand, runSetup, hop', if_pos hdepth', enterSetup, u, if_pos hop]
      rfl
    · have hop' : s.inExecution.txn.op = .unconfigured := hop
      simp only [runCommand, runSetup, hop', enterSetup, u, hop]
      rfl
    · have hop' : s.inExecution.txn.op = .setup := hop
      have hne : s.txn.op ≠ .ready ∧ s.txn.op ≠ .unconfigured := by simp [hop]
      have htxn : ({ s.inExecution.txn with op := .setup } : Controller) = s.inExecution.txn := by rw [← hop']
      simp only [runCommand, runSetup, hop', u, if_neg hne.1, if_neg hne.2, htxn]
      rfl
  refine ⟨_, exec_commandRow_due s .setup q h, exec_commandExecutionBegin_due s .setup q h, ?_⟩
  rw [hrun]
  have hend := endsAtOnce_settle_of_due u h rfl .done (.number 0)
  have hframe : CommandFrame s u := commandFrame_setTxn_setConfig s u.txn u.config ⟨rfl, rfl, rfl⟩ rfl
  exact ⟨hframe.trans hend.frame, hend.txn, hend.config, hend.sequences, hend.journal, hend.tracker, hend.engine,
    hend.queue, hend.dropped⟩

/-- Settles O52, by the frames below the top one and its short flag. -/
theorem commitClosesTheTopFrame : Obligations.CommitClosesTheTopFrame := by
  intro s q f below h hw hop hframes
  have hrun : beginExecution s .commit q = runCommit s.inExecution := beginExecution_warning_negated s .commit q hw
  have hop' : s.inExecution.txn.op = .ready := hop
  refine ⟨_, exec_commandRow_due s .commit q h, exec_commandExecutionBegin_due s .commit q h, ?_⟩
  have hframes' : s.inExecution.txn.frames = f :: below := hframes
  cases below with
  | cons f' rest =>
    let u := (s.inExecution.setTracker (trackerMerge s.tracker s.depth)).setTxn
      { s.inExecution.txn with frames := f'.carry f :: rest }
    have hu : beginExecution s .commit q = endExecution u .done (.number f.opening.toNat) := by
      rw [hrun]
      simp only [runCommit, hframes', hop', u]
      rfl
    rw [hu]
    have hend := endsAtOnce_settle_of_due u h rfl .done (.number f.opening.toNat)
    have hframe : CommandFrame s u := ⟨⟨rfl, rfl, rfl, rfl, rfl, rfl, rfl⟩, ⟨rfl, rfl, rfl, rfl⟩, ⟨rfl, rfl, rfl⟩,
      fun _ => rfl, fun _ => ⟨rfl, rfl, rfl, rfl⟩⟩
    refine ⟨hframe.trans hend.frame, hend.journal, hend.engine, hend.config, hend.queue, hend.dropped,
      fun g r hgr => ?_, nofun, nofun⟩
    obtain ⟨rfl, rfl⟩ := List.cons.inj hgr
    refine ⟨hend.txn, hend.sequences, fun e => ?_⟩
    rw [hend.tracker]
    exact mem_trackerMerge_iff s.tracker s.depth e
  | nil =>
    cases hshort : f.short with
    | true =>
      have hend : EndsAtOnce s _ .commit q .shortFrame (.number f.opening.toNat) :=
        endsAtOnce_of_beginExecution h (by rw [hrun]; simp [runCommit, hop', hframes', hshort])
      exact ⟨hend.frame, hend.journal, hend.engine, hend.config, hend.queue, hend.dropped, nofun,
        fun _ _ => hend, nofun⟩
    | false =>
      let u := s.inExecution.setTxn { s.inExecution.txn with op := .committing }
      have hu : beginExecution s .commit q = requestAdvance u := by
        rw [hrun]
        simp only [runCommit, hframes', hop', hshort, u, Bool.false_eq_true, if_false]
      obtain ⟨htxn, hjournal, htracker, hengine, hconfig, hqueue, hdropped, hsequences⟩ :=
        settle_requestAdvance_items u
      have hframe : CommandFrame s u := commandFrame_setTxn_setConfig s u.txn u.config ⟨rfl, rfl, rfl⟩ rfl
      rw [hu]
      refine ⟨hframe.trans ((commandFrame_requestAdvance u).trans (commandFrame_settle _)), hjournal, hengine,
        hconfig, hqueue, hdropped, nofun, nofun, fun _ _ ha k hk => ⟨htxn, htracker, ?_⟩⟩
      rw [hsequences]
      exact requestAdvance_sequences (s := u) rfl ha hk

/-- Settles O53, by whether the top frame has records, and by the frames below it. -/
theorem abortUndoesTheTopFrame : Obligations.AbortUndoesTheTopFrame := by
  intro s q f below h hw hop hframes
  have hdepth : s.depth = below.length + 1 := by simp [State.depth, hframes]
  have hrun : beginExecution s .abort q = enterAborting s.inExecution s.depth f.start := by
    have hop' : s.inExecution.txn.op = .ready := hop
    have hframes' : s.inExecution.txn.frames = f :: below := hframes
    rw [beginExecution_warning_negated s .abort q hw]
    simp only [runCommand, runAbort, hop', hframes']
    rfl
  refine ⟨_, exec_commandRow_due s .abort q h, exec_commandExecutionBegin_due s .abort q h, ?_⟩
  rw [hrun]
  rcases Nat.lt_or_ge f.start s.journal.n with hlt | hge
  · obtain ⟨hframe, hjournal, hconfig, hqueue, hdropped, htxn, htracker, hbegun, hsequences⟩ :=
      abortBegins s hw (target := s.depth) hlt
    exact ⟨hframe, fun _ => ⟨hjournal, hconfig, hqueue, hdropped⟩, fun _ => ⟨htxn, htracker, hbegun, hsequences⟩,
      fun hle => absurd hle (by omega), fun hle => absurd hle (by omega)⟩
  · cases below with
    | nil =>
      rw [show s.depth = 1 by simpa using hdepth]
      obtain ⟨hframe, hjournal, hconfig, hqueue, hdropped, htxn, htracker, hidle, hcursor, hsequences⟩ :=
        outerAbortAdvances s hge
      exact ⟨hframe, fun _ => ⟨hjournal, hconfig, hqueue, hdropped⟩, fun hlt => absurd hlt (by omega), nofun,
        fun _ _ ha k hk => ⟨htxn, htracker, hidle, hcursor, hsequences ha k hk⟩⟩
    | cons f' rest =>
      obtain ⟨hframe, hends⟩ := innerAbortAtOnce h (f := f) hge (by simp [hdepth])
      refine ⟨hframe, fun hx => ?_, fun hlt => absurd hlt (by omega), fun _ _ hl => ?_, nofun⟩
      · have hl : s.NoneToLift := by
          rcases hx with hlt | hnil | hl
          · omega
          · cases hnil
          · exact hl
        have hend := hends hl
        exact ⟨hend.journal, hend.config, hend.queue, hend.dropped⟩
      · have hend := hends hl
        refine ⟨?_, hend.tracker, by rw [hend.engine]; rfl, by rw [hend.engine]; rfl, hend.sequences⟩
        rw [hend.txn]
        simp [State.topRemoved, State.runEnded, State.inExecution, hframes]

/-- Settles O54, by whether there are records to restore. -/
theorem unwindUndoesEveryFrame : Obligations.UnwindUndoesEveryFrame := by
  intro s q h hw hwhere
  have hrun : beginExecution s .unwind q = enterAborting s.inExecution 1 0 := by
    rw [beginExecution_warning_negated s .unwind q hw]
    rcases hwhere with ⟨hop, hdepth⟩ | hop
    · have hop' : s.inExecution.txn.op = .ready := hop
      have hne : s.inExecution.txn.frames ≠ [] := List.ne_nil_of_length_pos hdepth
      simp [runCommand, runUnwind, hop', hne]
    · have hop' : s.inExecution.txn.op = .faulted := hop
      simp [runCommand, runUnwind, hop']
  refine ⟨_, exec_commandRow_due s .unwind q h, exec_commandExecutionBegin_due s .unwind q h, ?_⟩
  rw [hrun]
  rcases Nat.eq_zero_or_pos s.journal.n with hn | hn
  · obtain ⟨hframe, hjournal, hconfig, hqueue, hdropped, htxn, htracker, hidle, hcursor, hsequences⟩ :=
      outerAbortAdvances s (stop := 0) (by omega)
    exact ⟨hframe, htxn, htracker, hjournal, hconfig, hqueue, hdropped, fun hx => absurd hx (by omega),
      fun _ ha k hk => ⟨hidle, hcursor, hsequences ha k hk⟩⟩
  · obtain ⟨hframe, hjournal, hconfig, hqueue, hdropped, htxn, htracker, hbegun, hsequences⟩ :=
      abortBegins s hw (target := 1) hn
    exact ⟨hframe, htxn, htracker, hjournal, hconfig, hqueue, hdropped, fun _ => ⟨hbegun, hsequences⟩,
      fun hx => absurd hx (by omega)⟩

/-- Settles O57. -/
theorem adoptAndDiscardBeginTheirWork : Obligations.AdoptAndDiscardBeginTheirWork := by
  intro s q hw
  refine ⟨fun h hop => ?_, fun h hop ha k hk => ?_⟩
  · exact ⟨_, exec_commandRow_due s .adopt q h, exec_commandExecutionBegin_due s .adopt q h, adopt_begins s q hw hop⟩
  · obtain ⟨hframe, htxn, hjournal, htracker, hengine, hconfig, hqueue, hdropped, hsequences⟩ :=
      discard_begins s q hw hop
    exact ⟨_, exec_commandRow_due s .discard q h, exec_commandExecutionBegin_due s .discard q h, hframe, htxn,
      hjournal, htracker, hengine, hconfig, hqueue, hdropped, hsequences ha k hk⟩

end Sys2Proof
end

section
/-! SUPPORT. The step and the values after reset, the class of an address (R63), a raise taken by the queue (R144,
R151), and the grant (R115, R116). -/

namespace Sys2Proof.Machine

/-! ### The class of an address (R63) -/

/-- The first window that covers the granule gives the class (R63, test 4). -/
theorem classifyWindow_of_first {ws : List Window} {g k : Nat} {i : Nat} {w : Window} (hi : ws[i]? = some w)
    (hw : w.covers g = true) (hfirst : ∀ j v, j < i → ws[j]? = some v → v.covers g = false) :
    classifyWindow ws g k = .window w.mode g (k + i) := by
  induction ws generalizing i k with
  | nil => simp at hi
  | cons x rest ih =>
    cases i with
    | zero =>
      obtain rfl : x = w := by simpa using hi
      simp [classifyWindow, hw]
    | succ i =>
      have hx : x.covers g = false := hfirst 0 x (Nat.succ_pos i) rfl
      rw [classifyWindow, if_neg (by simp [hx]),
        ih (by simpa using hi) fun j v hj hv => hfirst (j + 1) v (by omega) (by simpa using hv)]
      congr 1
      omega

/-- With no window that covers the granule the address is UNGUARDED (R63, test 5). -/
theorem classifyWindow_of_none {ws : List Window} {g : Nat} (k : Nat) (h : ∀ w ∈ ws, w.covers g = false) :
    classifyWindow ws g k = .unguarded := by
  induction ws generalizing k with
  | nil => rfl
  | cons x rest ih =>
    rw [classifyWindow, if_neg (by simp [h x (by simp)])]
    exact ih _ fun w hw => h w (by simp [hw])

theorem covers_iff (w : Window) (g : Nat) : w.covers g = true ↔ w.base ≤ g ∧ g < w.base + w.length := by
  simp [Window.covers]

/-- An address below the strapped size and outside the control area is classified by the map (R63). -/
theorem classify_of_outside {s : State} {addr : Addr} {base : Nat} (hb : s.decoder.control = some base)
    (hlt : addr.toNat < s.port.strap * 1024) (hout : ¬(base ≤ addr.toNat ∧ addr.toNat < base + 512)) :
    classify s addr = (s.decoder.map.map (classifyMap · addr.toNat)).getD .unguarded := by
  unfold classify
  rw [if_neg (Nat.not_le.mpr hlt), hb]
  simp only [Bool.and_eq_true, decide_eq_true_eq, hout, if_false]
  cases s.decoder.map <;> rfl

/-! ### A raise (R144, R151) -/

section
variable {st : Status} {k : EventKind} (d : EventDetail) (arg : Option Nat)

/-- A raise with an entry of its kind only counts it there (R151, case 1). -/
theorem takeRaise_of_entry (h : ∃ e ∈ st.queue, e.kind = k) :
    takeRaise st k d arg = { st with queue := st.queue.map (repeatEntry k) } := by
  simp [takeRaise, h]

/-- A raise of a new kind joins a queue with room (R151, case 2). -/
theorem takeRaise_of_room (h : ∀ e ∈ st.queue, e.kind ≠ k) (hroom : st.queue.length < 4) :
    takeRaise st k d arg =
      { st with queue := st.queue ++ [{ kind := k, detail := d, argument := arg, repeats := 1 }] } := by
  unfold takeRaise
  rw [if_neg (by simpa using h), if_pos hroom]

/-- A raise of a new kind at a full queue is dropped and counted (R151, case 3). -/
theorem takeRaise_of_full (h : ∀ e ∈ st.queue, e.kind ≠ k) (hfull : 4 ≤ st.queue.length) :
    takeRaise st k d arg = { st with dropped := sat8 st.dropped } := by
  unfold takeRaise
  rw [if_neg (by simpa using h), if_neg (Nat.not_lt.mpr hfull)]

@[simp] theorem takeRaise_areaBegun (st : Status) (k : EventKind) : (takeRaise st k d arg).areaBegun = st.areaBegun := by
  rw [takeRaise_update]

end

theorem commandCarries_iff (s : State) :
    s.commandCarries = true ↔ s.command.inFlight.isSome = true ∧
      ¬(s.control.current = some (.update .command) ∧ s.status.areaBegun = true) := by
  simp [State.commandCarries, imp_iff_not_or]

/-- An update that is asked for is requested and owed, unless another carries it (R144, cases 2 to 4). -/
theorem requestRaiseUpdate_asked (s : State) :
    (s.commandCarries = true ∨ s.status.owed = true → requestRaiseUpdate s = s) ∧
    (¬(s.commandCarries = true ∨ s.status.owed = true) →
      (requestRaiseUpdate s).sequences = s.sequences ++ [.update .raise] ∧
      (requestRaiseUpdate s).status.owed = true) := by
  unfold requestRaiseUpdate
  cases hc : s.commandCarries <;> cases ho : s.status.owed <;> simp [requestSequence_sequences]

@[simp] theorem sameCounters_raiseEvent (s : State) (k : EventKind) (d : EventDetail) (arg : Option Nat) :
    SameCounters s (raiseEvent s k d arg) := by
  constructor <;> simp

/-- The update a raise or a negation asks for, where the start-up final update does not carry it alone (R144). -/
theorem updateAsked_requestRaiseUpdate {s : State} {startup settled : Prop} (h : ¬startup) :
    UpdateAsked s (requestRaiseUpdate s) startup settled := by
  obtain ⟨hcarried, hasked⟩ := requestRaiseUpdate_asked s
  refine ⟨fun hc => ?_, fun hc => ?_⟩
  · rw [hcarried (by rw [commandCarries_iff]; tauto)]
    exact ⟨rfl, fun _ => rfl⟩
  · obtain ⟨hs, ho⟩ := hasked (by rw [commandCarries_iff]; tauto)
    exact ⟨hs, fun _ => ho⟩

theorem updateAsked_of_startup {s : State} {startup settled : Prop} (h : startup) :
    UpdateAsked s s startup settled :=
  ⟨fun _ => ⟨rfl, fun _ => rfl⟩, fun hn => absurd (Or.inl h) hn⟩

/-- The update of a raise (R144): the start-up final update carries it until its event-area write has begun. -/
theorem updateAsked_updateForRaise (s : State) (settled : Prop) :
    UpdateAsked s (updateForRaise s)
      (s.txn.op.isStartup = true ∧
        ¬(s.control.current = some (.update .final) ∧ s.status.areaBegun = true)) settled := by
  unfold updateForRaise
  split
  case isTrue h => exact updateAsked_of_startup (by simpa [State.finalAreaBegun, imp_iff_not_or] using h)
  case isFalse h => exact updateAsked_requestRaiseUpdate (by simpa [State.finalAreaBegun, imp_iff_not_or] using h)

/-- What the update of a raise is asked of does not depend on the queue. -/
theorem UpdateAsked.of_setStatus {s t : State} {x : Status} {startup settled : Prop}
    (h : UpdateAsked (s.setStatus x) t startup settled) (ho : x.owed = s.status.owed)
    (ha : x.areaBegun = s.status.areaBegun) : UpdateAsked s t startup settled := by
  simpa [UpdateAsked, State.sequences, ho, ha] using h

/-! ### The grant (R115, R116) -/

section
variable (p : Port)

/-- The control unit waits at its yield limit. -/
def Port.ControlFirst : Prop := p.claimControl = true ∧ p.yieldLimit ≤ p.yieldControl

/-- The restore engine waits at its yield limit. -/
def Port.EngineFirst : Prop := p.claimEngine = true ∧ p.yieldLimit ≤ p.yieldEngine

theorem decideGrant_host_iff :
    decideGrant p = some .host ↔ ¬p.ControlFirst ∧ ¬p.EngineFirst ∧ p.claimHost = true := by
  unfold decideGrant Port.ControlFirst Port.EngineFirst
  (repeat' split) <;> simp_all

theorem decideGrant_control_iff : decideGrant p = some .control ↔
    p.ControlFirst ∨ (¬p.EngineFirst ∧ p.claimHost = false ∧ p.claimControl = true) := by
  unfold decideGrant Port.ControlFirst Port.EngineFirst
  (repeat' split) <;> simp_all

theorem decideGrant_engine_iff : decideGrant p = some .engine ↔
    ¬(p.ControlFirst ∨ (¬p.EngineFirst ∧ p.claimHost = false ∧ p.claimControl = true)) ∧
      ¬(¬p.ControlFirst ∧ ¬p.EngineFirst ∧ p.claimHost = true) ∧ p.claimEngine = true := by
  rw [← decideGrant_control_iff, ← decideGrant_host_iff]
  unfold decideGrant
  (repeat' split) <;> simp_all

end

/-- At a free memory port the decision is the grant. -/
theorem arbitrate_of_free {s : State} (h : s.port.inFlight = none) :
    (decideGrant s.port = some .host → arbitrate s = grantHost s) ∧
    (decideGrant s.port = some .control → arbitrate s = grantControl s) ∧
    (decideGrant s.port = some .engine → arbitrate s = grantEngine s) ∧
    (decideGrant s.port = none → arbitrate s = s) := by
  rcases arbitrate_cases s with ⟨he, hc⟩ | ⟨-, hg, he⟩ | ⟨-, hg, he⟩ | ⟨-, hg, he⟩
  · rw [hc.resolve_left (by simp [h])]
    simp [he]
  all_goals simp [hg, he]

/-- A grant to the host path takes the cause MEMORY from the cycle it grants (R67). -/
theorem grantHost_host {s : State} {c : HostCycle} (h : s.host.cycle = some c) :
    (grantHost s).host = { s.host with
      cycle := some (if c.cause = some .memory then { c with cause := none } else c) } := by
  unfold grantHost
  obtain ⟨a, w, d, k, cause⟩ := c
  rcases s with ⟨mem, ⟨cycle, hold, hfault, data⟩, _⟩
  obtain rfl : cycle = _ := h
  match cause with
  | some .memory => rfl
  | none | some .append | some .commit | some .abort | some .pending | some .spill => rfl

end Sys2Proof.Machine

namespace Sys2Proof

open Machine

/-- Settles O1: the definition of a step on a queue that is not empty. -/
theorem stepRunsTheFront : Obligations.StepRunsTheFront := by
  intro c rest s h
  simp [step, h]

/-- Settles O2: by the cases of the time base, with the limit reached as HOLD_EXPIRED. -/
theorem idleStepCountsTheHold : Obligations.IdleStepCountsTheHold := by
  intro s hq hr
  have hstep : step s = .next (match s.host.hold with
      | none => s
      | some t => tickTimer s t) := by
    simp only [step, hq, tick, unlessResetting, hr]
    rfl
  have hrunning : ∀ t, s.host.hold = some t → step s = .next (tickTimer s t) := fun t h => by rw [hstep, h]
  refine ⟨fun h => by rw [hstep, h], fun t h hc => ?_, fun t h hc hp => ?_, fun t h hc hp hl => ?_,
    fun t h hc hp hl => ?_⟩ <;> try rw [hrunning t h, tickTimer]
  · rw [if_pos hc]
  · rw [if_neg hc.ne', if_pos hp]
  · rw [if_neg hc.ne', if_neg (Nat.not_lt.mpr hp), if_neg (fun h => hl h.2.symm)]
  · rw [if_neg hc.ne', if_neg (Nat.not_lt.mpr hp), if_pos ⟨by omega, hl.symm⟩]
    simp [exec, execHoldExpired, unlessResetting, hr]

/-- Settles O3: the reset state is defined by these values. -/
theorem resetStateHoldsTheTable : Obligations.ResetStateHoldsTheTable := by
  unfold Obligations.ResetStateHoldsTheTable
  simp [State.reset]

/-- Settles O25: the row only negates HFAULT. -/
theorem hostCycleReleaseNegatesHfault : Obligations.HostCycleReleaseNegatesHfault :=
  fun _ => ⟨_, rfl, rfl, rfl⟩

/-- Settles O60: the tests of R63 one after another. -/
theorem addressesAreClassified : Obligations.AddressesAreClassified := by
  intro s addr a
  refine ⟨fun hc hm => by simp [classify, hc, hm], fun base hb => ⟨fun h => ?_, fun h harea => ?_,
    fun hm hout => ?_, fun m hm => ⟨fun h hout hj => ?_, fun h hout hj i w hi hw hfirst => ?_,
      fun h hout hj hnone => ?_⟩⟩⟩
  · exact if_pos h
  · unfold classify
    rw [if_neg (Nat.not_le.mpr h), hb]
    simp only [Bool.and_eq_true, decide_eq_true_eq]
    exact if_pos harea
  · by_cases h : s.port.strap * 1024 ≤ addr.toNat
    · exact if_pos h
    · rw [classify_of_outside hb (Nat.not_le.mp h) hout, hm]
      rfl
  all_goals
    rw [classify_of_outside hb h hout, hm]
    simp only [Option.map_some, Option.getD_some, classifyMap, Bool.and_eq_true, decide_eq_true_eq]
  · exact if_pos hj
  · rw [if_neg hj, classifyWindow_of_first hi ((covers_iff w _).mpr hw) fun j v hj hv =>
      Bool.eq_false_iff.mpr fun hc => hfirst j v hj hv ((covers_iff v _).mp hc), Nat.zero_add]
  · rw [if_neg hj]
    exact classifyWindow_of_none _ fun w hw =>
      Bool.eq_false_iff.mpr fun hc => hnone w hw ((covers_iff w _).mp hc)

/-- Settles O58: the three cases of R151, then the cases of R144. -/
theorem raiseIsTakenByTheQueue : Obligations.RaiseIsTakenByTheQueue := by
  intro s k d arg u
  have hqueue : u.queue = (takeRaise s.status k d arg).queue := raiseEvent_queue s k d arg
  have hdropped : u.dropped = (takeRaise s.status k d arg).dropped := raiseEvent_dropped s k d arg
  refine ⟨fun h => ?_, fun h hroom => ?_, fun h hfull => ?_, sameCounters_raiseEvent s k d arg, ?_⟩
  · rw [takeRaise_of_entry d arg h] at hqueue hdropped
    refine ⟨hdropped, by simp [hqueue], fun i e he => ?_⟩
    simp only [hqueue, List.getElem?_map, he, Option.map_some, repeatEntry, Option.some.injEq]
    split <;> simp_all [sat8]
  · rw [takeRaise_of_room d arg h hroom] at hqueue hdropped
    exact ⟨hqueue, hdropped⟩
  · rw [takeRaise_of_full d arg h hfull] at hqueue hdropped
    exact ⟨hqueue, hdropped⟩
  · have hasked := updateAsked_updateForRaise (s.setStatus (takeRaise s.status k d arg)) True
    exact UpdateAsked.of_setStatus (by simpa [raiseEvent] using hasked) (by simp) (by simp)

/-- Settles O59: the decision's tests in their order, and each grant. -/
theorem arbiterGrantsByYield : Obligations.ArbiterGrantsByYield := by
  intro s hfree p t controlFirst engineFirst host control engine
  obtain ⟨hhost, hcontrol, hengine, hnone⟩ := arbitrate_of_free hfree
  refine ⟨fun h => ?_, fun h => ?_, fun h => ?_, fun h h' h'' => hnone ((decideGrant_none s.port).mpr ⟨h, h', h''⟩)⟩
  · have ht : t = grantHost s := hhost ((decideGrant_host_iff s.port).mpr h)
    exact ⟨ht ▸ grantHost_port s, fun c hc => ht ▸ grantHost_host hc⟩
  · have ht : t = grantControl s := hcontrol ((decideGrant_control_iff s.port).mpr h)
    have hport : t.port = _ := (congrArg State.port ht).trans (grantControl_port s)
    refine ⟨by rw [hport], by rw [hport], by rw [hport], by rw [hport], by rw [hport], fun k hk => ⟨?_, ?_⟩⟩
    · simp only [State.inFlightFor, hport]
      obtain ⟨m, hm⟩ := Option.isSome_iff_exists.mp
        ((controlCycle_isSome (captureControl s)).trans (by simp [hk]))
      simp [hm, controlCycle_claimant _ m hm]
    · have hg : t = (captureControl s).setPort { p with
          inFlight := controlCycle (captureControl s), claimControl := false, yieldControl := 0 } := by
        rw [ht, grantControl, captureControl_port]
      cases k <;> rwa [captureControl, hk] at hg
  · have ht : t = grantEngine s := hengine ((decideGrant_engine_iff s.port).mpr ⟨h.1, h.2.1, h.2.2⟩)
    exact ht ▸ grantEngine_port s

end Sys2Proof
end

section
/-! SUPPORT. The formats as the manual's tables give them (R186 to R190): fields, check codes, the header slots
(R11, R12), the checks of Table 5-4 (R93), and the memory cycles of each claimant (R113). -/

namespace Sys2Proof.Machine

/-! ### Fields (R186) -/

/-- A number's two bytes, least significant first (R186). -/
theorem halfOf_eq (n : Nat) : halfOf n = [byteOf n, byteOf (n / 256)] := by
  have hlow : (BitVec.ofNat 16 n).extractLsb' 0 8 = byteOf n := by
    apply BitVec.eq_of_toNat_eq
    simp [byteOf]
  have hhigh : (BitVec.ofNat 16 n).extractLsb' 8 8 = byteOf (n / 256) := by
    apply BitVec.eq_of_toNat_eq
    simp [byteOf, Nat.shiftRight_eq_div_pow]
    omega
  rw [halfOf, halfBytes, hlow, hhigh]

/-- A two-byte field's value (R186). -/
theorem halfAt_toNat (l : List Byte) (i : Nat) :
    (halfAt l i).toNat = (byteAt l i).toNat + 256 * (byteAt l (i + 1)).toNat := by
  have h := (byteAt l i).isLt
  rw [halfAt, BitVec.toNat_append, ← Nat.shiftLeft_add_eq_or_of_lt h, Nat.shiftLeft_eq]
  omega

/-! ### Header slots (R10, R11) -/

theorem epochSucc_toNat (e : Long) :
    (epochSucc e).toNat = if e.toNat = 4294967295 then 1 else e.toNat + 1 := by
  have h := e.isLt
  unfold epochSucc
  by_cases he : e = 0xFFFFFFFF#32
  · simp [he]
  · have hn : e.toNat ≠ 4294967295 := fun hc => he (BitVec.eq_of_toNat_eq hc)
    rw [if_neg he, if_neg hn, BitVec.toNat_add]
    simp
    omega

/-- The tests of R11 on a header slot's bytes. -/
theorem headerValid_iff (strap : Nat) (l : List Byte) : headerValid strap l = true ↔
    halfAt l 0 = 0xE247 ∧ longAt l 2 ≠ 0 ∧
      ((byteAt l 10).toNat = 16 ∨ (byteAt l 10).toNat = 32 ∨ (byteAt l 10).toNat = 64) ∧
      byteAt l 11 = 0 ∧ 1 ≤ (halfAt l 8).toNat ∧ (halfAt l 8).toNat ≤ 256 ∧
      (halfAt l 6).toNat + (halfAt l 8).toNat ≤ strap - 1 ∧ halfAt l 14 = crc 0xFFFF (l.take 14) := by
  unfold headerValid headerGeometry
  simp only [granuleCode, headerTag, Bool.and_eq_true, Bool.or_eq_true, beq_iff_eq, bne_iff_ne, decide_eq_true_eq,
    and_assoc, or_assoc]

/-! ### The checks of Table 5-4 (R93) -/

theorem depthPasses_iff (target : Target) (n : Nat) :
    depthPasses target n = true ↔ ∀ d, target = .depth d → d ≤ n ∧ n ≤ 8 := by
  cases target <;> simp [depthPasses]

theorem rangePasses_iff (s : State) (granule : Nat) : rangePasses s granule = true ↔
    granule * s.geometry.granule + s.geometry.granule ≤ s.port.strap * 1024 - 512 ∧
      (granule * s.geometry.granule + s.geometry.granule ≤ s.geometry.base * 1024 ∨
        (s.geometry.base + s.geometry.length) * 1024 ≤ granule * s.geometry.granule) := by
  unfold rangePasses
  simp only [Bool.and_eq_true, Bool.or_eq_true, decide_eq_true_eq]
  rfl

/-- The first check that fails gives the reason, whatever the checks say (R93). -/
theorem verifyRecord_first {s : State} {bytes : List Byte} {p : Nat} {tag index depth check range : Prop}
    (htag : byteAt bytes 0 ≠ recordTag ↔ ¬tag) (hindex : (halfAt bytes 4).toNat ≠ p ↔ ¬index)
    (hdepth : (!depthPasses s.engine.target (byteAt bytes 1).toNat) = true ↔ ¬depth)
    (hcheck : (!recordVerifies s.journal.epoch s.geometry.granule bytes) = true ↔ ¬check)
    (hrange : (!rangePasses s (halfAt bytes 2).toNat) = true ↔ ¬range) :
    (verifyRecord s bytes p = some .tag ↔ ¬tag) ∧
    (verifyRecord s bytes p = some .index ↔ tag ∧ ¬index) ∧
    (verifyRecord s bytes p = some .depth ↔ tag ∧ index ∧ ¬depth) ∧
    (verifyRecord s bytes p = some .check ↔ tag ∧ index ∧ depth ∧ ¬check) ∧
    (verifyRecord s bytes p = some .range ↔ tag ∧ index ∧ depth ∧ check ∧ ¬range) ∧
    (verifyRecord s bytes p = none ↔ tag ∧ index ∧ depth ∧ check ∧ range) := by
  unfold verifyRecord
  split
  case isTrue h => simp [htag.mp h]
  case isFalse h =>
    have h1 : tag := not_not.mp (mt htag.mpr h)
    split
    case isTrue h => simp [h1, hindex.mp h]
    case isFalse h =>
      have h2 : index := not_not.mp (mt hindex.mpr h)
      split
      case isTrue h => simp [h1, h2, hdepth.mp h]
      case isFalse h =>
        have h3 : depth := not_not.mp (mt hdepth.mpr h)
        split
        case isTrue h => simp [h1, h2, h3, hcheck.mp h]
        case isFalse h =>
          have h4 : check := not_not.mp (mt hcheck.mpr h)
          split
          case isTrue h => simp [h1, h2, h3, h4, hrange.mp h]
          case isFalse h => simp [h1, h2, h3, h4, not_not.mp (mt hrange.mpr h)]

/-! ### Record bytes (R4, R13) -/

theorem recordBytes_eq (epoch : Long) (depth granule index : Nat) (link : Half) (payload : List Byte) :
    recordBytes epoch depth granule index link payload =
      let body : List Byte := [0xA5, byteOf depth, byteOf granule, byteOf (granule / 256), byteOf index,
        byteOf (index / 256), link.extractLsb' 0 8, link.extractLsb' 8 8] ++ payload
      let check := crc (epochSeed epoch) body
      body ++ [check.extractLsb' 0 8, check.extractLsb' 8 8] := by
  simp [recordBytes, recordBody, halfOf_eq, halfBytes, recordTag]

theorem headerBytes_eq (epoch : Long) (h : Geometry) :
    headerBytes epoch h =
      let body : List Byte := [0x47, 0xE2, epoch.extractLsb' 0 8, epoch.extractLsb' 8 8,
        epoch.extractLsb' 16 8, epoch.extractLsb' 24 8, byteOf h.base, byteOf (h.base / 256),
        byteOf h.length, byteOf (h.length / 256), byteOf h.granule, 0, h.serial.extractLsb' 0 8,
        h.serial.extractLsb' 8 8]
      let check := crc 0xFFFF body
      body ++ [check.extractLsb' 0 8, check.extractLsb' 8 8] := by
  simp [headerBytes, halfOf_eq, halfBytes, longBytes, headerTag]

/-! ### The memory cycles of an update (R146, R148) -/

/-- The live-state record's bytes: the number, the body, the number (R146). -/
theorem liveByte_eq (st : Status) (j : Nat) :
    (j < 4 → liveByte st j = byteAt (longBytes st.number) j) ∧
    (4 ≤ j → j < 60 → liveByte st j = byteAt st.body (j - 4)) ∧
    (60 ≤ j → liveByte st j = byteAt (longBytes st.number) (j - 60)) := by
  unfold liveByte
  refine ⟨fun h => if_pos h, fun h h' => ?_, fun h => ?_⟩
  · rw [if_neg (by omega), if_pos h']
  · rw [if_neg (by omega), if_neg (by omega)]

/-- The writes of an update by their number after the snapshot reads (Table 11-1). -/
theorem updateCycle_write {s : State} {j : Nat} (h : s.control.done = s.status.snapReads + j) :
    (j < 64 → updateCycle s = writeCycle .control (s.controlBase + 0x100 + j) (liveByte s.status j)) ∧
    (64 ≤ j → j < 168 → updateCycle s = writeCycle .control (s.controlBase + 0x140 + areaOffset (j - 64))
      (byteAt s.status.area (j - 64))) ∧
    (168 ≤ j → updateCycle s = writeCycle .control (s.controlBase + 0x0E0 + (j - 168))
      (byteAt s.status.record (j - 168))) := by
  unfold updateCycle
  rw [h, if_neg (by omega), Nat.add_sub_cancel_left]
  refine ⟨fun h => if_pos h, fun h h' => ?_, fun h => ?_⟩
  · exact (if_neg (Nat.not_lt.mpr h)).trans (if_pos h')
  · exact (if_neg (by omega)).trans (if_neg (Nat.not_lt.mpr h))

end Sys2Proof.Machine

namespace Sys2Proof

open Machine

/-- Settles O37: R10 by the value of an epoch, R11 by its tests, R12 by its cases. -/
theorem currentHeaderIsChosen : Obligations.CurrentHeaderIsChosen := by
  refine ⟨epochSucc_toNat, fun strap l => ⟨fun h => ?_, fun h => ?_⟩, fun a b => ⟨rfl, rfl, rfl, fun h => ?_,
    fun h h' => ?_, fun h h' => ⟨fun hlt => ?_, fun hge => ?_⟩⟩⟩
  · exact if_pos ((headerValid_iff strap l).mpr h)
  · exact if_neg fun hv => h ((headerValid_iff strap l).mp hv)
  · exact if_pos h
  · exact (if_neg h).trans (if_pos h')
  · exact (if_neg h).trans ((if_neg h').trans (if_pos (BitVec.lt_def.mpr hlt)))
  · exact (if_neg h).trans ((if_neg h').trans (if_neg (by rw [BitVec.lt_def]; omega)))

/-- Settles O32: the seed, one byte of the check code, and the tests in their order. -/
theorem restoreChecksInOrder : Obligations.RestoreChecksInOrder := by
  refine ⟨fun _ => rfl, fun r b l => ⟨rfl, ?_⟩, fun s bytes p => ?_⟩
  · simp [crc, crcByte, crcBit]
  · exact verifyRecord_first Iff.rfl Iff.rfl (Bool.not_eq_true' _ ▸ Bool.eq_false_iff.trans (depthPasses_iff _ _).not)
      (Bool.not_eq_true' _ ▸ Bool.eq_false_iff.trans (recordVerifies_iff _ _ _).not)
      (Bool.not_eq_true' _ ▸ Bool.eq_false_iff.trans (rangePasses_iff _ _).not)

/-- Settles O29: the cycle each claimant's claim is for, by the work it has in hand. -/
theorem appendCyclesInOrder : Obligations.AppendCyclesInOrder := by
  refine ⟨fun s a g ha hg => ?_, fun s p g hp hg => ?_, fun s k hk => ?_, fun s kind hk => ?_⟩
  · have hgeo : s.geometry = g := by simp [State.geometry, hg]
    have hc : hostCycle s = some (appendCycle s a) := by simp [hostCycle, ha]
    rw [hc, appendCycle, hgeo, appendRecord, recordBytes_eq]
    refine ⟨fun h => ?_, fun j hj h => ?_, fun h => ?_⟩
    · simp [h, readCycle]
    · simp [h, hj, writeCycle, appendBefore, recordSize, positionAddr, byteAt]
    · simp [h, appendBefore, recordSize]
  · have hgeo : s.geometry = g := by simp [State.geometry, hg]
    refine ⟨fun h => ?_, fun h => ?_⟩
    · simp [engineCycle, hp, hgeo, recordSize, h, readCycle, positionAddr]
    · simp [engineCycle, hp, hgeo, recordSize, Nat.not_lt.mpr h, writeCycle, halfAt_toNat]
  · intro area done read write
    have hc : controlCycle s = some (sequenceCycle s k) := by simp [controlCycle, hk]
    rw [hc]
    refine ⟨fun x epoch h hk => ?_, fun hk => ?_, fun slot hk => ?_, fun slot hk => ?_, fun g hg => ⟨fun hk => ?_, fun hk => ?_⟩⟩
      <;> subst hk
    · show some (writeCycle .control _ (byteAt (headerBytes epoch h) _)) = _
      rw [headerBytes_eq]
      cases x <;> rfl
    · rfl
    · show some (readCycle .control _) = _
      cases slot <;> exact congrArg (fun a => some (readCycle .control a)) (Nat.add_right_comm _ _ _)
    · show some (writeCycle .control _ _) = _
      cases slot <;> exact congrArg (fun a => some (writeCycle .control a _)) (Nat.add_right_comm _ _ _)
    · simp [sequenceCycle, write, writeCycle, positionAddr, recordSize, State.geometry, hg, voidTag]
    · simp [sequenceCycle, read, readCycle, positionAddr, recordSize, State.geometry, hg]
  · have hc : controlCycle s = some (updateCycle s) := by simp [controlCycle, hk, sequenceCycle]
    rw [hc]
    refine ⟨fun h => congrArg some (if_pos h), fun j hj => ?_⟩
    obtain ⟨hlead, hbody, htrail⟩ := liveByte_eq s.status j
    obtain ⟨hlive, harea, hrecord⟩ := updateCycle_write hj
    refine ⟨fun h => ?_, fun h h' => ?_, fun h h' => ?_, fun h h' => ?_, fun h h' => ?_, fun h => ?_⟩
    · rw [hlive (by omega), hlead h]; rfl
    · rw [hlive (by omega), hbody h h']; rfl
    · rw [hlive (by omega), htrail h]; rfl
    · rw [harea h (by omega), areaOffset, if_pos (by omega), ← Nat.add_assoc]; rfl
    · rw [harea (by omega) h', areaOffset, if_neg (by omega), Nat.sub_sub]; rfl
    · rw [hrecord h]; rfl

end Sys2Proof
end

section
/-! SUPPORT. The event queue and the counters along every step (R88, R116, R149, R151), the guarded memory (R111,
R112), and the blocks while a reset lasts (R170). Settles O10 and O15. -/

namespace Sys2Proof.Machine

variable {s t : State}

/-! ### What is reported, and how it changes -/

/-- The event queue with its dropped counter, and the counters that hold at their ends (R88, R116, R149). -/
structure Reports where
  queue        : List EventEntry
  dropped      : Nat
  refused      : Nat
  expired      : Nat
  startFaults  : Nat
  yieldControl : Nat
  yieldEngine  : Nat

def State.reports (s : State) : Reports where
  queue := s.status.queue
  dropped := s.status.dropped
  refused := s.status.refused
  expired := s.status.expired
  startFaults := s.status.startFaults
  yieldControl := s.port.yieldControl
  yieldEngine := s.port.yieldEngine

/-- A yield counter after a decision or a withdrawal: as it was, raised, or 0 (R116). -/
def YieldNext (n n' : Nat) : Prop := n' = n ∨ n' = sat8 n ∨ n' = 0

/-- The one way each reported item changes outside reset. -/
inductive ReportStep (r : Reports) : Reports → Prop
  | raised (st : Status) (k : EventKind) (d : EventDetail) (arg : Option Nat) (hq : st.queue = r.queue)
      (hd : st.dropped = r.dropped) :
    ReportStep r { r with queue := (takeRaise st k d arg).queue, dropped := (takeRaise st k d arg).dropped }
  | acknowledged (e : EventEntry) (rest : List EventEntry) (hq : r.queue = e :: rest) :
    ReportStep r { r with queue := rest, dropped := if rest.isEmpty then 0 else r.dropped }
  | refused : ReportStep r { r with refused := sat16 r.refused }
  | expired : ReportStep r { r with expired := sat16 r.expired }
  | startFaulted : ReportStep r { r with startFaults := sat16 r.startFaults }
  | yields (c e : Nat) (hc : YieldNext r.yieldControl c) (he : YieldNext r.yieldEngine e) :
    ReportStep r { r with yieldControl := c, yieldEngine := e }

/-- A state reports what comes of `r` by such changes. -/
def Reported (r : Reports) (s : State) : Prop := Relation.ReflTransGen ReportStep r s.reports

variable {r : Reports}

theorem Reported.refl (s : State) : Reported s.reports s := Relation.ReflTransGen.refl

theorem Reported.of_reports (h : Reported r s) (he : t.reports = s.reports) : Reported r t := by
  rw [Reported, he]
  exact h

theorem Reported.step (h : Reported r s) (he : ReportStep s.reports t.reports) : Reported r t := h.tail he

section
variable (s : State)

@[simp] theorem reports_setMem (x : Memory) : (s.setMem x).reports = s.reports := rfl
@[simp] theorem reports_setHost (x : HostPort) : (s.setHost x).reports = s.reports := rfl
@[simp] theorem reports_setDecoder (x : Decoder) : (s.setDecoder x).reports = s.reports := rfl
@[simp] theorem reports_setTxn (x : Controller) : (s.setTxn x).reports = s.reports := rfl
@[simp] theorem reports_setJournal (x : Journal) : (s.setJournal x).reports = s.reports := rfl
@[simp] theorem reports_setTracker (x : List TrackerEntry) : (s.setTracker x).reports = s.reports := rfl
@[simp] theorem reports_setEngine (x : Engine) : (s.setEngine x).reports = s.reports := rfl
@[simp] theorem reports_setControl (x : ControlUnit) : (s.setControl x).reports = s.reports := rfl
@[simp] theorem reports_setCommand (x : CommandPort) : (s.setCommand x).reports = s.reports := rfl
@[simp] theorem reports_setConfig (x : ConfigUnit) : (s.setConfig x).reports = s.reports := rfl
@[simp] theorem reports_setWarning (x : Bool) : (s.setWarning x).reports = s.reports := rfl
@[simp] theorem reports_setResetting (x : Bool) : (s.setResetting x).reports = s.reports := rfl
@[simp] theorem reports_setFree (x : Nat) : (s.setFree x).reports = s.reports := rfl
@[simp] theorem reports_setPending (x : List Instr) : (s.setPending x).reports = s.reports := rfl
@[simp] theorem reports_claimHost : s.claimHost.reports = s.reports := rfl
@[simp] theorem reports_claimControl : s.claimControl.reports = s.reports := rfl
@[simp] theorem reports_claimEngine : s.claimEngine.reports = s.reports := rfl
@[simp] theorem reports_withdrawHost : s.withdrawHost.reports = s.reports := rfl
@[simp] theorem reports_beginSequence (k : Sequence) : (beginSequence s k).reports = s.reports := by
  simp [State.reports]
@[simp] theorem reports_requestSequence (k : Sequence) : (requestSequence s k).reports = s.reports := by
  simp [State.reports]
@[simp] theorem reports_endSequence : (endSequence s).reports = s.reports := rfl
@[simp] theorem reports_continueSequence : (continueSequence s).reports = s.reports := rfl
@[simp] theorem reports_requestAdvance : (requestAdvance s).reports = s.reports := by
  obtain ⟨k, hk, -⟩ := requestAdvance_eq s
  simp [hk]
@[simp] theorem reports_endExecution (x : Result) (d : ResultDetail) :
    (endExecution s x d).reports = s.reports := by
  simp [State.reports]
@[simp] theorem reports_engineGoesOn : (engineGoesOn s).reports = s.reports := by
  unfold engineGoesOn
  split <;> simp
@[simp] theorem reports_endNormally (b : Byte) : (endNormally s b).reports = s.reports := by simp [State.reports]
@[simp] theorem reports_endWithFault : (endWithFault s).reports = s.reports := by simp [State.reports]
@[simp] theorem reports_updateForNegation : (updateForNegation s).reports = s.reports := by simp [State.reports]
@[simp] theorem reports_markShort : (markShort s).reports = s.reports := by simp [State.reports]
@[simp] theorem reports_claimPass : (claimPass s).reports = s.reports := by
  unfold claimPass
  split <;> simp
@[simp] theorem reports_holdCycle (x : HoldCause) : (holdCycle s x).reports = s.reports := by
  unfold holdCycle
  split <;> simp
@[simp] theorem reports_startAppend : (startAppend s).reports = s.reports := by
  unfold startAppend
  split <;> simp
@[simp] theorem reports_releaseGranule : (releaseGranule s).reports = s.reports := by
  unfold releaseGranule
  (repeat' split) <;> simp
@[simp] theorem reports_loadConfig (c : Configuration) : (loadConfig s c).reports = s.reports := rfl
@[simp] theorem reports_advanceEpoch (slot : HeaderSlot) (e : Long) (g : Geometry) :
    (advanceEpoch s slot e g).reports = s.reports := rfl
@[simp] theorem reports_startTimer : (startTimer s).reports = s.reports := by simp [State.reports]
@[simp] theorem reports_landCycle (m : MemCycle) : (landCycle s m).reports = s.reports := by
  unfold landCycle
  simp only
  split <;> rfl
@[simp] theorem reports_updateEnds (k : UpdateKind) : (updateEnds s k).reports = s.reports := by
  simp [State.reports]
@[simp] theorem reports_updateCycleEffects (b : Byte) : (updateCycleEffects s b).reports = s.reports := by
  unfold updateCycleEffects attentionAfter snapshotAfter
  simp only
  (repeat' split) <;> rfl
@[simp] theorem reports_sequenceKeeps (k : Sequence) (b : Byte) : (sequenceKeeps s k b).reports = s.reports := by
  cases k <;> simp [sequenceKeeps, configKeeps, configWrote]

end

theorem Reported.raiseEvent (h : Reported r s) (k : EventKind) (d : EventDetail) (a : Option Nat) :
    Reported r (raiseEvent s k d a) := by
  refine h.step ?_
  have he : (Machine.raiseEvent s k d a).reports = { s.reports with
      queue := (takeRaise s.status k d a).queue, dropped := (takeRaise s.status k d a).dropped } := by
    simp [State.reports]
  rw [he]
  exact .raised s.status k d a rfl rfl

theorem Reported.raiseRefusal (h : Reported r s) (x : WriteReason) (a : Addr) :
    Reported r (raiseRefusal s x a) := by
  unfold Machine.raiseRefusal
  split <;> exact h.raiseEvent _ _ _

theorem Reported.faultInStartup (h : Reported r s) : Reported r (faultInStartup s) :=
  Reported.of_reports (h.step (t := s.setStatus { s.status with startFaults := sat16 s.status.startFaults })
    .startFaulted) (reports_endWithFault _)

theorem Reported.refuseWrite (h : Reported r s) (x : WriteReason) : Reported r (refuseWrite s x) := by
  unfold Machine.refuseWrite
  split
  · exact h
  case h_2 c _ =>
    have hr := h.raiseRefusal x c.addr
    generalize Machine.raiseRefusal s x c.addr = u at hr ⊢
    exact Reported.of_reports (hr.step (t := u.setStatus { u.status with refused := sat16 u.status.refused })
      .refused) (by simp)

theorem Reported.expireCycle (h : Reported r s) : Reported r (expireCycle s) := by
  unfold Machine.expireCycle
  split
  · exact h
  case h_2 c _ =>
    split
    · exact h.faultInStartup
    · have hr : Reported r (s.setStatus { s.status with expired := sat16 s.status.expired }) := h.step .expired
      have he := hr.raiseEvent .holdExpired .none (some c.addr.toNat)
      refine he.of_reports ?_
      split <;> simp

theorem Reported.applyJudgement (h : Reported r s) (j : Judgement) : Reported r (applyJudgement s j) := by
  cases j with
  | pass => exact h.of_reports (reports_claimPass s)
  | hold cause => exact h.of_reports (reports_holdCycle s cause)
  | fault x => exact h.refuseWrite x
  | startFault => exact h.faultInStartup
  | append => exact h.of_reports (reports_startAppend s)

theorem Reported.takeCycle (h : Reported r s) (addr : Addr) (w : Bool) (data : Byte) :
    Reported r (takeCycle s addr w data) := by
  refine Reported.applyJudgement ?_ _
  exact h.of_reports rfl

theorem Reported.releaseHeld (h : Reported r s) : Reported r (releaseHeld s) := by
  unfold Machine.releaseHeld rejudge
  split
  · exact h
  · split
    · refine Reported.applyJudgement ?_ _
      exact h.of_reports rfl
    · refine Reported.applyJudgement ?_ _
      exact h.of_reports rfl
    · exact h.of_reports (by simp)
    · exact h.of_reports (by simp)
    · exact h

theorem Reported.offerInsert (h : Reported r s) (g d p : Nat) : Reported r (offerInsert s g d p) := by
  unfold Machine.offerInsert
  split
  · exact h.of_reports rfl
  · refine Reported.raiseEvent ?_ _ _ _
    exact h.of_reports rfl

/-! ### Appends, hold expiry and the power warning -/

theorem Reported.abandonAppend (h : Reported r s) (x : AbandonCause) : Reported r (abandonAppend s x) := by
  have hs : Reported r (s.setJournal { s.journal with append := none }).withdrawHost := h.of_reports rfl
  cases x with
  | power => exact hs.refuseWrite .power
  | expiry => exact hs.expireCycle

theorem Reported.abandonOn (h : Reported r s) (a : Append) (x : AbandonCause) : Reported r (abandonOn s a x) := by
  unfold Machine.abandonOn markAbandon
  split
  · exact h
  · split
    · exact h.of_reports rfl
    · exact h.abandonAppend x

theorem Reported.expireHold (h : Reported r s) : Reported r (expireHold s) := by
  unfold Machine.expireHold
  split
  · exact h
  · split
    case h_1 => exact h
    case h_2 =>
      split
      · exact h
      · exact h.abandonOn _ .expiry
    case h_3 => exact Reported.expireCycle (h.of_reports rfl)
    all_goals exact h.expireCycle

theorem Reported.faultForPower (h : Reported r s) : Reported r (faultForPower s) := by
  unfold Machine.faultForPower
  split
  · exact h.faultInStartup
  · exact h.refuseWrite .power

theorem Reported.hostOnWarning (h : Reported r s) : Reported r (hostOnWarning s) := by
  unfold Machine.hostOnWarning writeUnderWarning
  split
  · exact h
  · split
    case isFalse => exact h
    case isTrue =>
      split
      case h_1 =>
        split
        · exact h
        · exact h.abandonOn _ .power
      case h_2 => exact Reported.faultForPower (h.of_reports rfl)
      case h_3 => exact h.faultForPower
      all_goals exact h

theorem Reported.warningAsserts (h : Reported r s) : Reported r (warningAsserts s) := by
  have hreport : Reported r (reportWarning (s.setWarning true)) := by
    unfold reportWarning raiseWarning
    have hs : Reported r (s.setWarning true) := h.of_reports rfl
    have hd : Reported r ((s.setWarning true).setFree ((s.setWarning true).free + 1)) := h.of_reports rfl
    (repeat' split)
    · exact hd.hostOnWarning.raiseEvent _ _ _
    · exact (hd.raiseEvent _ _ _).hostOnWarning
    · exact (hs.raiseEvent _ _ _).hostOnWarning
  unfold Machine.warningAsserts engineOnWarning
  split
  · exact hreport.step (.yields _ _ (.inl rfl) (.inr (.inr rfl)))
  · exact hreport

theorem Reported.warningNegates (h : Reported r s) : Reported r (warningNegates s) := by
  refine h.of_reports ?_
  unfold Machine.warningNegates engineResumes
  rw [reports_updateForNegation]
  split <;> simp

/-! ### Work that ends, and the held cycle it lifts -/

theorem Reported.innerAbortEnds (h : Reported r s) : Reported r (innerAbortEnds s) :=
  Reported.releaseHeld (h.of_reports (by simp))

theorem Reported.truncateJournal (h : Reported r s) : Reported r (truncateJournal s) := by
  unfold Machine.truncateJournal
  split
  · exact h.innerAbortEnds
  · exact h.of_reports (by simp)

theorem Reported.closingEnds (h : Reported r s) : Reported r (closingEnds s) := by
  refine Reported.of_reports (h.raiseEvent .startComplete
    (.start (if s.txn.headerWritten then .restored else .clean)) (some s.txn.found)) ?_
  simp [Machine.closingEnds]

theorem Reported.enterClosing (h : Reported r s) : Reported r (enterClosing s) := by
  unfold Machine.enterClosing
  simp only
  split
  · exact h.of_reports (by simp)
  · exact Reported.closingEnds (h.of_reports (by simp))

theorem Reported.runEnds (h : Reported r s) : Reported r (runEnds s) := by
  have hs : Reported r (s.setEngine { s.engine with run := .idle, cursor := none }) := h.of_reports rfl
  unfold Machine.runEnds
  simp only
  split
  case h_1 =>
    split
    · exact hs.truncateJournal
    · exact hs.of_reports (by simp)
  case h_2 => exact hs.enterClosing
  all_goals exact hs

theorem Reported.startRun (h : Reported r s) (n stop : Nat) (target : Target) :
    Reported r (startRun s n stop target) := by
  unfold Machine.startRun
  simp only
  split
  · exact Reported.runEnds (h.of_reports rfl)
  · exact h.of_reports (by simp)

theorem Reported.enterAborting (h : Reported r s) (target stop : Nat) :
    Reported r (enterAborting s target stop) := by
  refine Reported.startRun ?_ _ _ _
  exact h.of_reports rfl

theorem Reported.runAcknowledge (h : Reported r s) : Reported r (runAcknowledge s) := by
  unfold Machine.runAcknowledge
  split
  · exact h.of_reports (by simp)
  case h_2 e rest hq =>
    exact Reported.of_reports (h.step (t := s.setStatus { s.status with
      queue := rest, dropped := if rest.isEmpty then 0 else s.status.dropped })
      (.acknowledged e rest hq)) (by simp)

theorem Reported.runCommand (h : Reported r s) (cmd : Command) (q : Half) : Reported r (runCommand s cmd q) := by
  cases cmd with
  | acknowledge => exact h.runAcknowledge
  | begin =>
    refine h.of_reports ?_
    simp only [Machine.runCommand, runBegin]
    (repeat' split) <;> simp
  | commit =>
    refine h.of_reports ?_
    simp only [Machine.runCommand, runCommit]
    (repeat' split) <;> simp
  | abort =>
    simp only [Machine.runCommand, runAbort]
    split
    · split
      · exact h.of_reports (by simp)
      · exact h.enterAborting _ _
    · exact h.of_reports (by simp [cancelSetup])
    · exact h.of_reports (by simp)
  | unwind =>
    simp only [Machine.runCommand, runUnwind]
    split
    · split
      · exact h.of_reports (by simp)
      · exact h.enterAborting _ _
    · exact h.enterAborting _ _
    · exact h.of_reports (by simp)
  | setup =>
    refine h.of_reports ?_
    simp only [Machine.runCommand, runSetup, enterSetup]
    (repeat' split) <;> simp
  | adopt =>
    refine h.of_reports ?_
    simp only [Machine.runCommand, runAdopt]
    (repeat' split) <;> simp
  | discard =>
    refine h.of_reports ?_
    simp only [Machine.runCommand, runDiscard]
    split <;> simp

theorem Reported.beginExecution (h : Reported r s) (cmd : Command) (q : Half) :
    Reported r (beginExecution s cmd q) := by
  unfold Machine.beginExecution
  simp only
  split
  · exact h.of_reports (by simp)
  · refine Reported.runCommand ?_ cmd q
    exact h.of_reports rfl

theorem Reported.takeStrobe (h : Reported r s) (cmd : Command) : Reported r (takeStrobe s cmd) := by
  unfold Machine.takeStrobe handOver
  simp only
  split
  · exact h.of_reports rfl
  · refine Reported.beginExecution ?_ cmd _
    exact h.of_reports rfl

theorem Reported.epochAdvanceCompletes (h : Reported r s) (slot : HeaderSlot) (e : Long) (g : Geometry) :
    Reported r (epochAdvanceCompletes s slot e g) := by
  have hs : Reported r (advanceEpoch s slot e g) := h.of_reports rfl
  unfold Machine.epochAdvanceCompletes
  simp only
  generalize advanceEpoch s slot e g = u at hs ⊢
  split
  case h_1 => exact Reported.releaseHeld (hs.of_reports (by simp))
  case h_2 => exact Reported.releaseHeld (hs.of_reports (by simp))
  case h_3 => exact hs.of_reports (by simp [discardEnds])
  case h_4 => exact hs.of_reports (by simp [adoptInstalls])
  case h_5 => exact hs.closingEnds
  all_goals exact hs

theorem Reported.headerSlotsRead (h : Reported r s) (l : List Byte) : Reported r (headerSlotsRead s l) := by
  unfold Machine.headerSlotsRead
  simp only
  split
  · split
    · exact h.enterClosing
    · exact h.of_reports (by simp [loadHeader])
  · exact h.of_reports (by simp)

theorem Reported.configSlotRead (h : Reported r s) (x : ConfigSlot) : Reported r (configSlotRead s x) := by
  unfold Machine.configSlotRead
  split
  case h_6 =>
    refine Reported.of_reports (Reported.raiseEvent ?_ _ _ _) (reports_requestSequence _ _)
    exact h.of_reports rfl
  all_goals exact h.of_reports (by simp [adoptFails, loadingEnds])

theorem Reported.sequenceEnds (h : Reported r s) (l : List Byte) (k : Sequence) :
    Reported r (sequenceEnds s l k) := by
  cases k with
  | headerWrite slot e g => exact h.epochAdvanceCompletes slot e g
  | voidMark => exact h.innerAbortEnds
  | headerRead => exact h.headerSlotsRead l
  | configRead slot => exact h.configSlotRead slot
  | configWrite slot => exact h.of_reports (by cases slot <;> simp [Machine.sequenceEnds, configSlotWritten])
  | scan => exact h
  | update kind => exact h.of_reports (by simp [Machine.sequenceEnds])

theorem Reported.scanEnds (h : Reported r s) (n : Nat) : Reported r (scanEnds s n) := by
  unfold Machine.scanEnds enterRestoring
  simp only
  split
  · exact Reported.enterClosing (h.of_reports (by simp))
  · exact Reported.startRun (h.of_reports (by simp)) _ _ _

theorem Reported.controlCycleEnds (h : Reported r s) (b : Byte) : Reported r (controlCycleEnds s b) := by
  unfold Machine.controlCycleEnds scanGoesOn
  split
  · exact h
  · split
    · exact h.scanEnds _
    · exact h.of_reports (by simp)
    · simp only
      split
      · exact Reported.scanEnds (s := scanAccepts s _) (h.of_reports rfl) _
      · exact h.of_reports rfl
  · simp only
    split
    · exact Reported.sequenceEnds (h.of_reports (by simp)) _ _
    · exact h.of_reports (by simp)

theorem Reported.restoreFault (h : Reported r s) (x : RestoreReason) (p : Nat) :
    Reported r (restoreFault s x p) := by
  unfold Machine.restoreFault
  simp only
  have hs : Reported r (Machine.raiseEvent (s.setEngine { s.engine with
      run := .stopped, reason := some x, reads := 0, writes := 0 }) .restoreFault (.restore x) (some p)) := by
    refine Reported.raiseEvent ?_ _ _ _
    exact h.of_reports rfl
  split
  · exact Reported.releaseHeld (hs.of_reports (by simp))
  · refine Reported.of_reports (Reported.raiseEvent ?_ _ _ _) (reports_requestSequence _ _)
    exact hs.of_reports rfl
  · exact hs

theorem Reported.engineCycleEnds (h : Reported r s) (b : Byte) : Reported r (engineCycleEnds s b) := by
  unfold Machine.engineCycleEnds recordRead stepCompletes
  simp only
  split
  · split
    · split
      · exact Reported.restoreFault (s := engineKeeps s b) (h.of_reports rfl) _ _
      · exact h.of_reports (by simp [engineKeeps])
    · exact h.of_reports (by simp [engineKeeps])
  · split
    · split
      · exact Reported.runEnds (h.of_reports (by simp))
      · exact h.of_reports (by simp)
    · exact h.of_reports (by simp)

theorem Reported.hostCycleEnds (h : Reported r s) (b : Byte) : Reported r (hostCycleEnds s b) := by
  unfold Machine.hostCycleEnds Machine.appendCompletes appendGoesOn
  simp only
  split
  · split
    · exact Reported.offerInsert (h.of_reports (by simp)) _ _ _
    · split
      · exact Reported.abandonAppend (h.of_reports (by simp)) _
      · exact h.of_reports (by simp)
  · exact h.of_reports (by simp)

theorem Reported.cycleEnds (h : Reported r s) (m : MemCycle) : Reported r (cycleEnds s m) := by
  have hs : Reported r (landCycle s m) := h.of_reports (by simp)
  unfold Machine.cycleEnds claimantGoesOn
  split
  · exact hs.hostCycleEnds _
  · exact hs.controlCycleEnds _
  · exact hs.engineCycleEnds _

/-! ### The close of a step (R116) -/

theorem YieldNext.raised (n : Nat) (b : Bool) : YieldNext n (if b then sat8 n else n) := by
  cases b
  · exact .inl rfl
  · exact .inr (.inl rfl)

theorem Reported.settle (h : Reported r s) : Reported r (settle s) := by
  refine Reported.of_reports ?_ (reports_startTimer _)
  have hstatus : (arbitrate s).reports = { s.reports with
      yieldControl := (arbitrate s).port.yieldControl, yieldEngine := (arbitrate s).port.yieldEngine } := by
    simp [State.reports, ← settle_status]
  refine h.step (hstatus ▸ ?_)
  refine .yields _ _ ?_ ?_
  all_goals
    rcases arbitrate_cases s with ⟨he, -⟩ | ⟨-, -, he⟩ | ⟨-, -, he⟩ | ⟨-, -, he⟩ <;> rw [he]
  · exact .inl rfl
  · exact (grantHost_port s) ▸ YieldNext.raised _ _
  · exact (grantControl_port s) ▸ .inr (.inr rfl)
  · exact .inl rfl
  · exact .inl rfl
  · exact (grantHost_port s) ▸ YieldNext.raised _ _
  · exact (grantControl_port s) ▸ .inl rfl
  · exact .inr (.inr rfl)

theorem StepBody.reported (hb : StepBody s t) : Reported s.reports t := by
  have h := Reported.refl s
  cases hb with
  | resetEnds msz high strobe =>
    unfold leaveReset raiseWarning
    simp only
    split
    · exact h.of_reports (by simp; rfl)
    · exact Reported.raiseEvent (h.of_reports (by simp; rfl)) _ _ _
  | warns => exact h.warningAsserts
  | negates => exact h.warningNegates
  | takes _ addr w data => exact h.takeCycle addr w data
  | expires _ timer => exact Reported.expireHold (s := timerAtLimit s timer) (h.of_reports rfl)
  | takesStrobe _ cmd => exact h.takeStrobe cmd
  | begins _ cmd q => exact h.beginExecution cmd q
  | ends _ m => exact h.cycleEnds m
  | starts => exact h.of_reports (by simp)

/-- A step changes what is reported by such changes, or clears it. -/
theorem StepEffect.reported (he : StepEffect s t) :
    Reported s.reports t ∨ t.reports = State.reset.reports := by
  cases he with
  | resets => exact .inr rfl
  | closes hb => exact .inl hb.reported.settle
  | _ => exact .inl ((Reported.refl s).of_reports rfl)

/-! ### The laws of the queue and of the counters (R88, R116, R149) -/

/-- The queue's law, of a queue and its dropped counter. -/
structure QueueSound (queue : List EventEntry) (dropped : Nat) : Prop where
  atMostFour   : queue.length ≤ 4
  kindsDiffer  : (queue.map (fun e => e.kind)).Nodup
  repeatsRange : ∀ e ∈ queue, 1 ≤ e.repeats ∧ e.repeats ≤ 255
  droppedRange : dropped ≤ 255
  droppedNeeds : dropped ≠ 0 → queue ≠ []

theorem queueLaw_iff (s : State) : QueueLaw s ↔ QueueSound s.reports.queue s.reports.dropped :=
  ⟨fun h => ⟨h.1, h.2, h.3, h.4, h.5⟩, fun h => ⟨h.1, h.2, h.3, h.4, h.5⟩⟩

theorem sat8_le (n : Nat) : sat8 n ≤ 255 := Nat.min_le_left _ _

theorem sat16_le (n : Nat) : sat16 n ≤ 65535 := Nat.min_le_left _ _

/-- A raise keeps the queue's law, by the three cases of R151. -/
theorem QueueSound.takeRaise {st : Status} (h : QueueSound st.queue st.dropped) (k : EventKind) (d : EventDetail)
    (arg : Option Nat) : QueueSound (takeRaise st k d arg).queue (takeRaise st k d arg).dropped := by
  obtain ⟨hfour, hkinds, hrepeats, hrange, hneeds⟩ := h
  by_cases hentry : ∃ e ∈ st.queue, e.kind = k
  · rw [takeRaise_of_entry d arg hentry]
    have hkind : ∀ e, (repeatEntry k e).kind = e.kind := fun e => by unfold repeatEntry; split <;> rfl
    refine ⟨by simpa using hfour, by simpa [hkind, Function.comp_def] using hkinds, fun e' he' => ?_, hrange,
      fun hd => by simpa using hneeds hd⟩
    obtain ⟨e, he, rfl⟩ := List.mem_map.mp he'
    obtain ⟨hlow, hhigh⟩ := hrepeats e he
    unfold repeatEntry
    split
    · exact ⟨Nat.le_min.mpr ⟨by omega, by omega⟩, sat8_le _⟩
    · exact ⟨hlow, hhigh⟩
  · have hnew : ∀ e ∈ st.queue, e.kind ≠ k := fun e he hk => hentry ⟨e, he, hk⟩
    by_cases hroom : st.queue.length < 4
    · rw [takeRaise_of_room d arg hnew hroom]
      refine ⟨by simpa using hroom, ?_, fun e he => ?_, hrange, fun _ => by simp⟩
      · rw [List.map_append]
        exact hkinds.append (by simp) (by simpa using hnew)
      · rcases List.mem_append.mp he with he | he
        · exact hrepeats e he
        · obtain rfl : e = _ := List.mem_singleton.mp he
          exact ⟨Nat.le_refl 1, show 1 ≤ 255 by decide⟩
    · rw [takeRaise_of_full d arg hnew (Nat.not_lt.mp hroom)]
      exact ⟨hfour, hkinds, hrepeats, sat8_le _, fun _ hnil => hroom (by simp [show st.queue = [] from hnil])⟩

theorem ReportStep.queueSound {r' : Reports} (h : ReportStep r r') (hq : QueueSound r.queue r.dropped) :
    QueueSound r'.queue r'.dropped := by
  cases h with
  | raised st k d arg hqueue hdropped =>
    rw [← hqueue, ← hdropped] at hq
    exact hq.takeRaise k d arg
  | acknowledged e rest he =>
    obtain ⟨hfour, hkinds, hrepeats, hrange, -⟩ := hq
    rw [he] at hfour hkinds hrepeats
    refine ⟨by simp at hfour ⊢; omega, (List.nodup_cons.mp hkinds).2,
      fun x hx => hrepeats x (List.mem_cons_of_mem e hx), ?_, ?_⟩
    · dsimp only
      split <;> omega
    · dsimp only
      cases rest <;> simp
  | _ => exact hq

theorem Reported.queueSound (h : Reported r s) (hq : QueueSound r.queue r.dropped) : QueueLaw s := by
  refine (queueLaw_iff s).mpr ?_
  unfold Reported at h
  generalize s.reports = r' at h ⊢
  induction h with
  | refl => exact hq
  | tail _ hstep ih => exact hstep.queueSound ih

/-- The counters' law, of what is reported. -/
structure CounterSound (r : Reports) : Prop where
  refused      : r.refused ≤ 65535
  expired      : r.expired ≤ 65535
  startFaults  : r.startFaults ≤ 65535
  yieldControl : r.yieldControl ≤ 255
  yieldEngine  : r.yieldEngine ≤ 255

theorem counterLaw_iff (s : State) : CounterLaw s ↔ CounterSound s.reports :=
  ⟨fun h => ⟨h.1, h.2, h.3, h.4, h.5⟩, fun h => ⟨h.1, h.2, h.3, h.4, h.5⟩⟩

theorem YieldNext.le {n n' : Nat} (h : YieldNext n n') (hn : n ≤ 255) : n' ≤ 255 := by
  rcases h with rfl | rfl | rfl
  · exact hn
  · exact sat8_le n
  · exact Nat.zero_le _

theorem ReportStep.counterSound {r' : Reports} (h : ReportStep r r') (hc : CounterSound r) : CounterSound r' := by
  cases h with
  | refused => exact { hc with refused := sat16_le _ }
  | expired => exact { hc with expired := sat16_le _ }
  | startFaulted => exact { hc with startFaults := sat16_le _ }
  | yields c e hnc hne =>
    exact { hc with yieldControl := hnc.le hc.yieldControl, yieldEngine := hne.le hc.yieldEngine }
  | _ => exact ⟨hc.1, hc.2, hc.3, hc.4, hc.5⟩

theorem Reported.counterSound (h : Reported r s) (hc : CounterSound r) : CounterLaw s := by
  refine (counterLaw_iff s).mpr ?_
  unfold Reported at h
  generalize s.reports = r' at h ⊢
  induction h with
  | refl => exact hc
  | tail _ hstep ih => exact hstep.counterSound ih

theorem StepEffect.queueLaw (he : StepEffect s t) (h : QueueLaw s) : QueueLaw t := by
  rcases he.reported with hr | hr
  · exact hr.queueSound ((queueLaw_iff s).mp h)
  · refine (queueLaw_iff t).mpr (hr ▸ ?_)
    constructor <;> simp [State.reports, State.reset]

theorem StepEffect.counterLaw (he : StepEffect s t) (h : CounterLaw s) : CounterLaw t := by
  rcases he.reported with hr | hr
  · exact hr.counterSound ((counterLaw_iff s).mp h)
  · refine (counterLaw_iff t).mpr (hr ▸ ?_)
    constructor <;> simp [State.reports, State.reset]

/-! ### The guarded memory (R111, R112) -/

/-- A piece of work leaves the memory as it is, but for the end of a memory cycle. -/
theorem StepBody.mem (hb : StepBody s t) :
    t.mem = s.mem ∨ ∃ m, s.port.inFlight = some m ∧ t.mem = (landCycle s m).mem := by
  cases hb with
  | ends _ m hm => exact .inr ⟨m, hm, by simp [cycleEnds]⟩
  | expires _ timer => exact .inl (by simp)
  | _ => exact .inl (by simp)

/-- A step leaves the memory as it is, or writes the byte of the memory write in flight at its address. -/
theorem StepEffect.mem (he : StepEffect s t) : t.mem = s.mem ∨
    ∃ m, s.port.inFlight = some m ∧ m.isWrite = true ∧ t.mem = s.mem.write m.addr.toNat m.data := by
  cases he with
  | resets =>
    show tornMemory s = s.mem ∨ _
    unfold tornMemory
    split
    case h_1 m hm =>
      split
      case isTrue hw => exact .inr ⟨m, hm, (Bool.and_eq_true_iff.mp hw).1, rfl⟩
      case isFalse => exact .inl rfl
    case h_2 => exact .inl rfl
  | closes hb =>
    rw [settle_mem]
    rcases hb.mem with h | ⟨m, hm, h⟩
    · exact .inl h
    · cases hw : m.isWrite
      case false => exact .inl (h.trans (landCycle_mem_read s m hw))
      case true => exact .inr ⟨m, hm, hw, h.trans (landCycle_mem_write s m hw)⟩
  | _ => exact .inl rfl

/-! ### While a reset lasts (R170) -/

theorem StepBody.resetting (hb : StepBody s t) : t.resetting = false := by
  cases hb with
  | resetEnds msz high strobe =>
    unfold leaveReset
    simp only
    split <;> simp [raiseWarning]
  | _ => simp [*]

theorem StepEffect.resetLaw (he : StepEffect s t) (h : ResetLaw s) : ResetLaw t := by
  intro hr
  cases he with
  | stays => exact h hr
  | resets => rfl
  | releases =>
    have hs := h hr
    rw [← hs]
    rfl
  | counts hn => simp [hn] at hr
  | sees hn => simp [hn] at hr
  | ignores hn => simp [hn] at hr
  | closes hb => simp [hb.resetting] at hr

end Sys2Proof.Machine

namespace Sys2Proof

open Machine

/-- Settles O10: every effect of a step keeps each law by itself. -/
theorem everyStepKeepsTheBlockLaws : Obligations.EveryStepKeepsTheBlockLaws := by
  intro s t hstep
  obtain ⟨rest, he⟩ := step_effect s t hstep
  refine ⟨fun h => ?_, fun h => ?_, fun h => ?_, fun h => he.resetLaw (resetLaw_setPending h rest)⟩
  · rcases he.mem with hm | ⟨m, -, -, hm⟩
    · rw [MemoryLaw, hm]
      exact h
    · rw [MemoryLaw, hm]
      exact Memory.wf_write _ _ _ h
  · exact he.queueLaw ⟨h.1, h.2, h.3, h.4, h.5⟩
  · exact he.counterLaw ⟨h.1, h.2, h.3, h.4, h.5⟩

/-- Settles O15: the one write a step can do is that of the cycle in flight. -/
theorem memoryChangesOnlyAtTheWriteInFlight : Obligations.MemoryChangesOnlyAtTheWriteInFlight := by
  intro c s t a hmem hexec hne
  obtain ht | ⟨m, hm, hw, ht⟩ := (exec_effect c s t hexec).mem
  · exact absurd (by rw [ht]) hne
  · have ha : m.addr.toNat = a := by
      by_contra ha
      exact hne (by rw [ht, Memory.read_write_other _ _ _ _ ha])
    exact ⟨m, hm, hw, ha, by rw [ht, ← ha, Memory.read_write_same _ _ _ hmem]⟩

end Sys2Proof
end

section
/-! SUPPORT. A reset's two ends (R170), and a host cycle that is taken: it passes, is held or is faulted, by its
judgement (R66 to R80). -/

namespace Sys2Proof.Machine

/-! ### The grant to the host path, and the hold timer (R67, R83, R84, R115) -/

theorem decideGrant_host_iff_hostNext {s : State} (hclaim : s.port.claimHost = true)
    (hfree : s.port.inFlight = none) : decideGrant s.port = some .host ↔ s.HostNext := by
  rw [decideGrant_host_iff]
  exact ⟨fun ⟨hc, he, _⟩ => ⟨hfree, hc, he⟩, fun ⟨_, hc, he⟩ => ⟨hc, he, hclaim⟩⟩

/-- A claim of the host path is granted where it is next, and otherwise stands with the host port as it was. -/
theorem arbitrate_claimHost {s : State} (hclaim : s.port.claimHost = true) :
    (s.HostNext ∧ arbitrate s = grantHost s) ∨
      (¬s.HostNext ∧ (arbitrate s).host = s.host ∧ (arbitrate s).port.claimHost = true) := by
  rcases arbitrate_cases s with ⟨he, hc⟩ | ⟨hfree, hg, he⟩ | ⟨hfree, hg, he⟩ | ⟨hfree, hg, he⟩
  · refine .inr ⟨fun hn => ?_, by rw [he], by rw [he, hclaim]⟩
    rcases hc with hc | hc
    · simp [hn.1] at hc
    · rw [(decideGrant_host_iff_hostNext hclaim hn.1).mpr hn] at hc
      cases hc
  · exact .inl ⟨(decideGrant_host_iff_hostNext hclaim hfree).mp hg, he⟩
  all_goals
    refine .inr ⟨fun hn => ?_, by rw [he]; simp, by rw [he]; simpa [grantControl_port, grantEngine_port]⟩
    rw [(decideGrant_host_iff_hostNext hclaim hfree).mpr hn] at hg
    cases hg

/-- A cycle that performs its memory cycle, and no cycle at all, start no timer. -/
theorem startTimer_of_noCause {s : State} (h : ∀ c, s.host.cycle = some c → c.cause = none) :
    startTimer s = s := by
  unfold startTimer
  split
  case h_1 c hc _ => exact if_neg (by simp [h c hc])
  case h_2 => rfl

/-- The timer of a held cycle runs from then on (R84). -/
theorem startTimer_of_held {s : State} {c : HostCycle} (hc : s.host.cycle = some c)
    (hcause : c.cause.isSome = true) : (startTimer s).host.cycle = some c ∧
      (startTimer s).hwait = true ∧ TimerRuns s (startTimer s) := by
  unfold startTimer
  cases hh : s.host.hold with
  | none =>
    simp only [hc, hcause, if_true]
    exact ⟨rfl, rfl, fun _ => rfl, fun hs => by simp [hh] at hs⟩
  | some x =>
    simp only [hc, true_and]
    exact ⟨by simp [State.hwait, hh], fun hn => by simp [hh] at hn, fun _ => rfl⟩

/-! ### Frames -/

theorem HostCycleFrame.refl (s : State) : HostCycleFrame s s :=
  ⟨⟨rfl, rfl, rfl, rfl, rfl, rfl, rfl⟩, ⟨rfl, rfl, rfl, rfl⟩, rfl, rfl, rfl, rfl, fun _ => rfl⟩

theorem Surroundings.trans {s u t : State} (h : Surroundings s u) (h' : Surroundings u t) : Surroundings s t :=
  ⟨h'.1.trans h.1, h'.2.trans h.2, h'.3.trans h.3, h'.4.trans h.4, h'.5.trans h.5, h'.6.trans h.6, h'.7.trans h.7⟩

theorem SameCommand.trans {s u t : State} (h : SameCommand s u) (h' : SameCommand u t) : SameCommand s t :=
  ⟨h'.1.trans h.1, h'.2.trans h.2, h'.3.trans h.3, h'.4.trans h.4⟩

theorem HostCycleFrame.trans {s u t : State} (h : HostCycleFrame s u) (h' : HostCycleFrame u t) :
    HostCycleFrame s t :=
  ⟨h.1.trans h'.1, h.2.trans h'.2, h'.3.trans h.3, h'.4.trans h.4, h'.5.trans h.5, h'.6.trans h.6,
    fun a => (h'.7 a).trans (h.7 a)⟩

theorem SameReports.trans {s u t : State} (h : SameReports s u) (h' : SameReports u t) : SameReports s t :=
  ⟨h'.1.trans h.1, h'.2.trans h.2, h'.3.trans h.3, h'.4.trans h.4, h'.5.trans h.5⟩

theorem surroundings_settle (s : State) : Surroundings s (settle s) := by constructor <;> simp

theorem sameCommand_settle (s : State) : SameCommand s (settle s) := by constructor <;> simp

theorem sameReports_settle (s : State) : SameReports s (settle s) := by constructor <;> simp

theorem hostCycleFrame_settle (s : State) : HostCycleFrame s (settle s) :=
  ⟨surroundings_settle s, sameCommand_settle s, by simp, by simp, by simp, by simp, fun a => by simp⟩

/-! ### A cycle that passes, is held or is faulted -/

/-- The host port with a cycle in progress, not yet judged. -/
def State.withCycle (s : State) (c : HostCycle) : State :=
  s.setHost { s.host with cycle := some c, hfault := false }

theorem hostCycleFrame_withCycle (s : State) (c : HostCycle) : HostCycleFrame s (s.withCycle c) :=
  ⟨⟨rfl, rfl, rfl, rfl, rfl, rfl, rfl⟩, ⟨rfl, rfl, rfl, rfl⟩, rfl, rfl, rfl, rfl, fun _ => rfl⟩

theorem claimPass_withCycle (s : State) (c : HostCycle) :
    claimPass (s.withCycle c) = (s.withCycle { c with cause := some .memory }).claimHost := rfl

theorem holdCycle_withCycle (s : State) (c : HostCycle) (x : HoldCause) :
    holdCycle (s.withCycle c) x = s.withCycle { c with cause := some x } := rfl

/-- A cycle judged to pass passes (R67). -/
theorem passes_settle (s : State) (c : HostCycle) (happ : s.journal.append = none) :
    Passes s (settle (claimPass (s.withCycle c))) c := by
  rw [claimPass_withCycle]
  generalize hu : (s.withCycle { c with cause := some .memory }).claimHost = u
  have hcycle : u.host.cycle = some { c with cause := some .memory } := by rw [← hu]; rfl
  have hhold : u.host.hold = s.host.hold := by rw [← hu]; rfl
  have hfault : u.host.hfault = false := by rw [← hu]; rfl
  have hframe : HostCycleFrame s u := by
    rw [← hu]
    exact ⟨⟨rfl, rfl, rfl, rfl, rfl, rfl, rfl⟩, ⟨rfl, rfl, rfl, rfl⟩, rfl, rfl, rfl, rfl, fun _ => rfl⟩
  have hnext : u.HostNext ↔ s.HostNext := by rw [← hu]; exact Iff.rfl
  have hclaim : u.port.claimHost = true := by rw [← hu]; rfl
  have happ' : u.journal.append = none := by rw [← hu]; exact happ
  have htxn : u.txn = s.txn := by rw [← hu]; rfl
  have hjournal : u.journal = s.journal := by rw [← hu]; rfl
  have hreports : SameReports s u := by rw [← hu]; exact ⟨rfl, rfl, rfl, rfl, rfl⟩
  clear hu
  refine ⟨fun hs => ?_, fun hs => ?_, by simp [State.hfault, hfault], hreports.trans (sameReports_settle u),
    by simp [htxn], by simp [hjournal], hframe.trans (hostCycleFrame_settle u)⟩
  · obtain ⟨-, hgrant⟩ := (arbitrate_claimHost hclaim).resolve_right fun h => h.1 (hnext.mpr hs)
    have hhost : (arbitrate u).host = { u.host with cycle := some { c with cause := none } } := by
      rw [hgrant, grantHost_host hcycle]
      rfl
    rw [settle, startTimer_of_noCause (by simp [hhost]), hhost]
    refine ⟨rfl, hhold, ?_⟩
    rw [hgrant, grantHost_port]
    simp only [hostCycle, happ', hcycle]
    rfl
  · obtain ⟨-, hhost, hclaims⟩ := (arbitrate_claimHost hclaim).resolve_left fun h => hs (hnext.mp h.1)
    obtain ⟨hc, hw, hstarts, hgoes⟩ := startTimer_of_held (s := arbitrate u) (by rw [hhost, hcycle]) rfl
    have hloaded := hframe.around.loaded
    rw [hhost, hhold] at hstarts hgoes
    rw [arbitrate_config, hloaded] at hstarts
    exact ⟨hc, by simpa using hclaims, hw, hstarts, hgoes⟩

/-- A cycle held with another cause than MEMORY is held after the close of the step (R66, R84). -/
theorem held_settle {s u : State} {c : HostCycle} {x : HoldCause} (hx : x ≠ .memory)
    (hhost : u.host = (s.withCycle { c with cause := some x }).host) (htxn : u.txn = s.txn)
    (hreports : SameReports s u) (hframe : HostCycleFrame s u) : Held s (settle u) c x := by
  have hcycle : u.host.cycle = some { c with cause := some x } := by rw [hhost]; rfl
  have hkept : (arbitrate u).host = u.host := arbitrate_host_cycle u _ hcycle (by simpa using hx)
  obtain ⟨hc, hw, hstarts, hgoes⟩ := startTimer_of_held (s := arbitrate u) (by rw [hkept, hcycle]) rfl
  have hloaded := hframe.around.loaded
  have hhold : u.host.hold = s.host.hold := by rw [hhost]; rfl
  rw [hkept, hhold] at hstarts hgoes
  rw [arbitrate_config, hloaded] at hstarts
  exact ⟨hc, hw, ⟨hstarts, hgoes⟩, by simp [State.hfault, hhost, State.withCycle], hreports.trans (sameReports_settle u),
    by simp [htxn], hframe.trans (hostCycleFrame_settle u)⟩

/-- The fault on the bus outlasts the close of the step (R68). -/
theorem settle_endWithFault {u : State} (h : u.host.cycle.isSome = true) :
    (settle (endWithFault u)).host.cycle = none ∧ (settle (endWithFault u)).hwait = false ∧
      (settle (endWithFault u)).hfault = true := by
  obtain ⟨hc, hh, hf⟩ := endWithFault_host u h
  rw [State.hwait, State.hfault, settle_host_of_none _ hc]
  exact ⟨hc, by rw [hh]; rfl, hf⟩

theorem hostCycleFrame_faultInStartup (s : State) : HostCycleFrame s (faultInStartup s) :=
  ⟨by constructor <;> simp [faultInStartup], by constructor <;> simp, by simp, by simp, by simp [faultInStartup],
    by simp [faultInStartup], fun a => by simp⟩

/-- A host cycle faulted in STARTUP (R79). -/
theorem startFaulted_settle {s u : State} (hc : u.host.cycle.isSome = true) (hstatus : u.status = s.status)
    (htxn : u.txn = s.txn) (hjournal : u.journal = s.journal) (hframe : HostCycleFrame s u) :
    StartFaulted s (settle (faultInStartup u)) := by
  obtain ⟨hcycle, hwait, hfault⟩ := settle_endWithFault
    (u := u.setStatus { u.status with startFaults := sat16 u.status.startFaults }) hc
  refine ⟨hcycle, hwait, hfault, ?_, ?_, ?_, ?_, ?_, by simp [htxn], by simp [hjournal], ?_⟩
  case refine_6 =>
    exact (hframe.trans (hostCycleFrame_faultInStartup u)).trans (hostCycleFrame_settle _)
  all_goals simp [faultInStartup, hstatus]

theorem raiseRefusal_queue (s : State) (r : WriteReason) (a : Addr) :
    (raiseRefusal s r a).status.queue = (refusalEvent s.status r a).queue ∧
      (raiseRefusal s r a).status.dropped = (refusalEvent s.status r a).dropped := by
  unfold raiseRefusal refusalEvent
  split <;> simp

/-- A frame that says nothing of the status unit, the control unit, the transaction controller or the host port. -/
theorem hostCycleFrame_refuseWrite (s : State) (r : WriteReason) : HostCycleFrame s (refuseWrite s r) :=
  ⟨by constructor <;> simp, by constructor <;> simp, by simp, by simp, by simp, by simp, fun a => by simp⟩

theorem framesAfterFault_eq (s : State) : (markShort s).txn = { s.txn with frames := s.framesAfterFault } := by
  unfold markShort State.framesAfterFault
  split <;> rfl

/-- A refused write, block by block (R43, R68, R87). -/
theorem refuseWrite_status {u : State} {c : HostCycle} (hc : u.host.cycle = some c) (r : WriteReason) :
    (refuseWrite u r).status.queue = (refusalEvent u.status r c.addr).queue ∧
    (refuseWrite u r).status.dropped = (refusalEvent u.status r c.addr).dropped ∧
    (refuseWrite u r).status.refused = sat16 u.status.refused ∧
    (refuseWrite u r).status.expired = u.status.expired ∧
    (refuseWrite u r).status.startFaults = u.status.startFaults ∧
    (refuseWrite u r).txn = { u.txn with frames := u.framesAfterFault } := by
  obtain ⟨hqueue, hdropped⟩ := raiseRefusal_queue u r c.addr
  simp [refuseWrite, hc, hqueue, hdropped, framesAfterFault_eq, State.framesAfterFault]

/-- A write refused outside STARTUP (R43, R68, R87). -/
theorem refused_settle {s u : State} {c : HostCycle} (hc : u.host.cycle = some c) (hstatus : u.status = s.status)
    (htxn : u.txn = s.txn) (hjournal : u.journal = s.journal) (hframe : HostCycleFrame s u) (r : WriteReason) :
    Refused s (settle (refuseWrite u r)) r c.addr := by
  obtain ⟨hqueue, hdropped, hrefused, hexpired, hfaults, htxn'⟩ := refuseWrite_status hc r
  have hbus : (settle (refuseWrite u r)).host.cycle = none ∧ (settle (refuseWrite u r)).hwait = false ∧
      (settle (refuseWrite u r)).hfault = true := by
    simp only [refuseWrite, hc]
    exact settle_endWithFault (by simp [hc])
  obtain ⟨hcycle, hwait, hfault⟩ := hbus
  rw [State.framesAfterFault, htxn] at htxn'
  rw [hstatus] at hqueue hdropped hrefused hexpired hfaults
  exact ⟨hcycle, hwait, hfault, by simp [hqueue], by simp [hdropped], by simp [hrefused],
    by rw [settle_status_expired, hexpired], by rw [settle_status_startFaults, hfaults], by simp [htxn', State.framesAfterFault], by simp [hjournal],
    (hframe.trans (hostCycleFrame_refuseWrite u r)).trans (hostCycleFrame_settle _)⟩

/-! ### A cycle that is taken (R64, R66) -/

/-- A cycle taken at a free host port is judged as it stands. -/
theorem exec_hostCycle {s : State} (h : HostFree s) (addr : Addr) (w : Bool) (data : Byte) :
    hostBegins s addr w data = settle (applyJudgement (s.withCycle (taken s addr w data))
      (judge s (taken s addr w data))) := by
  obtain ⟨hreset, hcycle, -⟩ := h
  rw [hostBegins, unlessResetting, hreset, hcycle]
  rfl

section
variable {s : State} {addr : Addr} {w : Bool} {data : Byte} (h : HostFree s)
include h

theorem passes_of_judge (hj : judge s (taken s addr w data) = .pass) :
    Passes s (hostBegins s addr w data) (taken s addr w data) := by
  rw [exec_hostCycle h, hj]
  exact passes_settle s _ h.noAppend

theorem held_of_judge {x : HoldCause} (hj : judge s (taken s addr w data) = .hold x) (hx : x ≠ .memory) :
    Held s (hostBegins s addr w data) (taken s addr w data) x ∧
      (hostBegins s addr w data).journal = s.journal := by
  rw [exec_hostCycle h, hj]
  refine ⟨?_, settle_journal _⟩
  exact held_settle (u := s.withCycle { taken s addr w data with cause := some x }) hx rfl rfl
    ⟨rfl, rfl, rfl, rfl, rfl⟩ (hostCycleFrame_withCycle s _)

theorem refused_of_judge {r : WriteReason} (hj : judge s (taken s addr w data) = .fault r) :
    Refused s (hostBegins s addr w data) r addr := by
  rw [exec_hostCycle h, hj]
  exact refused_settle (s := s) (u := s.withCycle (taken s addr w data)) rfl rfl rfl rfl (hostCycleFrame_withCycle s _) r

theorem startFaulted_of_judge (hj : judge s (taken s addr w data) = .startFault) :
    StartFaulted s (hostBegins s addr w data) := by
  rw [exec_hostCycle h, hj]
  exact startFaulted_settle (u := s.withCycle (taken s addr w data)) rfl rfl rfl rfl (hostCycleFrame_withCycle s _)

end

theorem judgeWrite_warning {s : State} (hst : s.txn.op.isStartup = false) (hw : s.warning = true) (cls : AddrClass) :
    judgeWrite s cls = .fault .power := by
  unfold judgeWrite
  split
  case h_1 p hp => simp [hp, OpState.isStartup] at hst
  case h_2 => exact if_pos hw

theorem judgeWrite_noWarning {s : State} (hst : s.txn.op.isStartup = false) (hw : s.warning = false)
    (cls : AddrClass) : judgeWrite s cls = judgeWriteByClass s cls := by
  unfold judgeWrite
  split
  case h_1 p hp => simp [hp, OpState.isStartup] at hst
  case h_2 => exact if_neg (by simp [hw])

/-- An append requested in a frame reserves position N; the write is held and its first read claimed (R16). -/
theorem startAppend_withCycle (s : State) {c : HostCycle} {mode : WindowMode} {g i : Nat}
    (hc : c.cls = .window mode g i) : startAppend (s.withCycle c) =
      ((s.withCycle { c with cause := some .append }).setJournal { s.journal with
        append := some ⟨c.addr, c.data, s.depth, g, s.journal.n, 0, none⟩ }).claimHost := by
  obtain ⟨addr, w, data, cls, cause⟩ := c
  obtain rfl : cls = _ := hc
  rfl

/-- Outside STARTUP with the warning negated a journaled write is judged by the state (R73 to R78). -/
theorem judge_journaled {s : State} {addr : Addr} {data : Byte} {mode : WindowMode} {g i : Nat}
    (hst : s.txn.op.isStartup = false) (hw : s.warning = false) (hcls : classify s addr = .window mode g i)
    (hmode : mode ≠ .frozen) : judge s (taken s addr true data) = judgeJournaled s mode g := by
  refine (judgeWrite_noWarning hst hw (classify s addr)).trans ?_
  rw [hcls]
  cases mode
  case frozen => exact absurd rfl hmode
  all_goals rfl

/-- What an append's request leaves after the close of the step (R16, R17). -/
theorem appends_settle (s : State) {c : HostCycle} {mode : WindowMode} {g i : Nat} (hcls : c.cls = .window mode g i) :
    let t := settle (startAppend (s.withCycle c))
    Held s t c .append ∧
      t.journal = { s.journal with append := some ⟨c.addr, c.data, s.depth, g, s.journal.n, 0, none⟩ } ∧
      (t.port.claimHost = true ∨ (0 < s.geometry.granule → t.port.inFlight = some
        { claimant := .host, addr := BitVec.ofNat 20 (g * s.geometry.granule), isWrite := false, data := 0 })) := by
  rw [startAppend_withCycle s hcls]
  generalize hu : ((s.withCycle { c with cause := some .append }).setJournal { s.journal with
    append := some ⟨c.addr, c.data, s.depth, g, s.journal.n, 0, none⟩ }).claimHost = u
  have hjournal : u.journal = { s.journal with
      append := some ⟨c.addr, c.data, s.depth, g, s.journal.n, 0, none⟩ } := by rw [← hu]; rfl
  have hclaim : u.port.claimHost = true := by rw [← hu]; rfl
  refine ⟨held_settle (by decide) (by rw [← hu]; rfl) (by rw [← hu]; rfl) (by rw [← hu]; exact ⟨rfl, rfl, rfl, rfl, rfl⟩)
    (by rw [← hu]; exact ⟨⟨rfl, rfl, rfl, rfl, rfl, rfl, rfl⟩, ⟨rfl, rfl, rfl, rfl⟩, rfl, rfl, rfl, rfl, fun _ => rfl⟩),
    by simp [hjournal], ?_⟩
  rw [settle_port]
  rcases arbitrate_claimHost hclaim with ⟨-, hgrant⟩ | ⟨-, -, hstands⟩
  · refine .inr fun hg => ?_
    have hgeo : u.geometry = s.geometry := by rw [State.geometry, hjournal]; rfl
    rw [hgrant, grantHost_port]
    simp only [hostCycle, hjournal, appendCycle, hgeo, hg, if_true]
    rfl
  · exact .inl hstands

theorem appends_of_judge {s : State} {addr : Addr} {data : Byte} (h : HostFree s) {mode : WindowMode} {g i : Nat}
    (hj : judge s (taken s addr true data) = .append) (hcls : classify s addr = .window mode g i) :
    let t := hostBegins s addr true data
    Held s t (taken s addr true data) .append ∧
      t.journal = { s.journal with append := some ⟨addr, data, s.depth, g, s.journal.n, 0, none⟩ } ∧
      (t.port.claimHost = true ∨ (0 < s.geometry.granule → t.port.inFlight = some
        { claimant := .host, addr := BitVec.ofNat 20 (g * s.geometry.granule), isWrite := false, data := 0 })) := by
  rw [exec_hostCycle h, hj]
  exact appends_settle s (c := taken s addr true data) hcls

end Sys2Proof.Machine

namespace Sys2Proof

open Machine

/-- Settles O17: a read outside ABORTING and LOADING is judged to pass, by its class and the state. -/
theorem hostReadPasses : Obligations.HostReadPasses := by
  intro s addr h hwhere
  refine ⟨_, rfl, passes_of_judge h ?_⟩
  show judgeRead s (classify s addr) = .pass
  unfold judgeRead
  rcases hwhere with ⟨hop, hst⟩ | ⟨hop, hcls⟩
  · split <;> simp_all [OpState.isStartup]
  · split <;> simp_all

/-- Settles O18: the three answers of R70 in their order. -/
theorem hostReadInAborting : Obligations.HostReadInAborting := by
  intro s addr mode g i h hop hcls
  refine ⟨_, rfl, ?_⟩
  have hj : judge s (taken s addr false 0) = if spillWide s then .hold .spill
      else if trackerPending s.tracker g then .hold .pending else .pass := by
    show judgeRead s (classify s addr) = _
    unfold judgeRead
    rw [hcls, hop]
  have hwide : spillWide s = true ↔ s.depth = 0 ∨
      (s.txn.frames.take (s.depth + 1 - s.engine.target.level)).any (fun f => f.spill) = true := by
    simp [spillWide, State.depth]
  have hpending : trackerPending s.tracker g = true ↔ ∃ e ∈ s.tracker, e.granule = g ∧ e.pending = true := by
    simp [trackerPending]
  simp only [← hwide, ← hpending]
  split
  case isTrue hw => exact (held_of_judge h (hj.trans (if_pos hw)) (by decide)).1
  case isFalse hw =>
    replace hj := hj.trans (if_neg hw)
    split
    case isTrue hp => exact (held_of_judge h (hj.trans (if_pos hp)) (by decide)).1
    case isFalse hp => exact passes_of_judge h (hj.trans (if_neg hp))

/-- Settles O19: the judgements of R79. -/
theorem startupFaultsCycles : Obligations.StartupFaultsCycles := by
  intro s p addr data h hop
  refine ⟨fun hread => ⟨_, rfl, startFaulted_of_judge h ?_⟩, fun hwrite => ⟨_, rfl, startFaulted_of_judge h ?_⟩⟩
  · show judgeRead s (classify s addr) = .startFault
    rw [judgeRead.eq_def, hop]
    rcases hread with rfl | ⟨mode, g, i, hcls⟩
    · rfl
    · rw [hcls]
      cases p <;> rfl
  · show judgeWrite s (classify s addr) = .startFault
    rw [judgeWrite, hop]
    simp only [judgeWriteInStartup]
    split
    · rfl
    case isFalse hn =>
      simp only [Bool.or_eq_true, decide_eq_true_eq, not_or] at hn
      exact if_neg ((hwrite.resolve_left hn.1).resolve_left hn.2)

/-- Settles O20: the class UNGUARDED passes but for R79 and R80. -/
theorem unguardedWritePasses : Obligations.UnguardedWritePasses := by
  intro s addr data h hcls
  have hj : judge s (taken s addr true data) = judgeWrite s .unguarded := by
    rw [← hcls]
    rfl
  refine ⟨_, rfl, fun hw hop => passes_of_judge h (hj.trans ?_), fun hw hst => refused_of_judge h (hj.trans ?_),
    fun hor hst => startFaulted_of_judge h (hj.trans ?_)⟩
  · unfold judgeWrite
    split
    case h_1 p hp =>
      have hne : p ≠ .loading := fun hl => hop (hl ▸ hp)
      simp [judgeWriteInStartup, hne, hw]
    case h_2 => simp [hw, judgeWriteByClass]
  · exact judgeWrite_warning hst hw _
  · unfold judgeWrite
    split
    case h_1 p hp =>
      rw [judgeWriteInStartup, if_pos]
      rcases hor with hw | hl
      · simp [hw]
      · simp [OpState.startup.inj (hp.symm.trans hl)]
    case h_2 hne => cases hop : s.txn.op <;> simp_all [OpState.isStartup]

/-- Settles O24: R80 comes before every class. -/
theorem powerWarningRefusesEveryWrite : Obligations.PowerWarningRefusesEveryWrite :=
  fun _ _ _ h hst hw => ⟨_, rfl, refused_of_judge h (judgeWrite_warning hst hw _)⟩

/-- Settles O21: the classes no write reaches, and the staged slot in SETUP. -/
theorem guardedWriteIsRefused : Obligations.GuardedWriteIsRefused := by
  intro s addr data h hst hw
  have hj : judge s (taken s addr true data) = judgeWriteByClass s (classify s addr) :=
    judgeWrite_noWarning hst hw _
  refine ⟨_, rfl, fun staged hcls => ⟨fun hok => ?_, fun hno => ?_⟩, fun hcls => ?_, fun g i hcls => ?_⟩
  all_goals rw [hcls] at hj
  · obtain ⟨hs, hop, ha⟩ := hok
    exact passes_of_judge h (hj.trans (by simp [judgeWriteByClass, hs, hop, ha]))
  · refine refused_of_judge h (hj.trans (if_neg ?_))
    simp only [Bool.and_eq_true, Bool.not_eq_true', beq_iff_eq, not_and_or, Bool.not_eq_true, Bool.not_eq_false]
    tauto
  · exact refused_of_judge h hj
  · exact refused_of_judge h hj

/-- Settles O22: the judgement of a journaled write by the state, where no append can be made. -/
theorem journaledWriteOutsideAFrame : Obligations.JournaledWriteOutsideAFrame := by
  intro s addr data mode g i h hw hcls hmode
  have hj : s.txn.op.isStartup = false → judge s (taken s addr true data) = judgeJournaled s mode g := fun hst =>
    judge_journaled hst hw hcls hmode
  have hat : ∀ op, s.txn.op = op → op.isStartup = false → judge s (taken s addr true data) = judgeJournaled s mode g :=
    fun op hop hst => hj (hop ▸ hst)
  refine ⟨_, rfl, fun hwhere => ?_, fun hop => ?_, fun hop => ?_, fun hop => ?_⟩
  · have hun : judge s (taken s addr true data) = judgeUnframed mode := by
      rcases hwhere with ⟨hop, hd⟩ | hop | hop <;> rw [hat _ hop rfl, judgeJournaled.eq_def, hop]
      exact if_pos hd
    refine ⟨fun hm => passes_of_judge h (hun.trans (by rw [hm]; rfl)), fun hm => refused_of_judge h (hun.trans (by rw [hm]; rfl))⟩
  · exact held_of_judge h ((hat _ hop rfl).trans (by rw [judgeJournaled.eq_def, hop])) (by decide)
  · exact held_of_judge h ((hat _ hop rfl).trans (by rw [judgeJournaled.eq_def, hop])) (by decide)
  · exact refused_of_judge h ((hat _ hop rfl).trans (by rw [judgeJournaled.eq_def, hop]))

/-- Settles O23: the judgement of a write in a frame, and the append it requests. -/
theorem journaledWriteInAFrame : Obligations.JournaledWriteInAFrame := by
  intro s addr data mode g i h hw hop hdepth hcls hmode
  have hj : judge s (taken s addr true data) = judgeFramed s g := by
    rw [judge_journaled (by rw [hop]; rfl) hw hcls hmode, judgeJournaled.eq_def, hop]
    exact if_neg (by omega)
  refine ⟨_, rfl, ?_⟩
  have hhit : trackerHit s.tracker g s.depth = true ↔ ∃ e ∈ s.tracker, e.granule = g ∧ e.depth = s.depth := by
    simp [trackerHit]
  simp only [← hhit]
  unfold judgeFramed at hj
  split
  case isTrue hit => exact passes_of_judge h (hj.trans (if_pos hit))
  case isFalse hmiss =>
    replace hj := hj.trans (if_neg hmiss)
    split
    case isFalse hfull => exact refused_of_judge h (hj.trans (if_neg hfull))
    case isTrue hroom => exact appends_of_judge h (hj.trans (if_pos hroom)) hcls

end Sys2Proof
end

section
/-! SUPPORT. The two ends of a reset (R170), the expiry of a hold (R85, R86), and the power warning (R81, R102, R103,
R183 to R185). -/

namespace Sys2Proof.Machine

/-! ### The end of a reset (R170, R172) -/

/-- The items a reset's end samples, with LOADING entered (R170, R171). -/
def State.sampled (s : State) (msz : BitVec 3) (pwarnHigh cstrbHigh : Bool) : State :=
  ((((s.setResetting false).setPort { s.port with strap := strapSize msz }).setCommand
    { s.command with strobe := cstrbHigh }).setTxn { s.txn with op := .startup .loading }).setWarning (!pwarnHigh)

theorem leaveReset_eq (s : State) (msz : BitVec 3) (pwarnHigh cstrbHigh : Bool) :
    leaveReset s msz pwarnHigh cstrbHigh =
      if pwarnHigh then requestSequence (s.sampled msz pwarnHigh cstrbHigh) (.configRead .primary)
      else raiseWarning (requestSequence (s.sampled msz pwarnHigh cstrbHigh) (.configRead .primary)) := rfl

/-- In STARTUP a raise asks for nothing before the final update (R144, case 1). -/
theorem raiseEvent_of_startup {s : State} (hst : s.txn.op.isStartup = true)
    (hc : s.control.current ≠ some (.update .final)) (k : EventKind) (d : EventDetail) (arg : Option Nat) :
    raiseEvent s k d arg = s.setStatus (takeRaise s.status k d arg) := by
  unfold raiseEvent updateForRaise
  refine if_pos ?_
  simp [hst, State.finalAreaBegun, hc]

@[simp] theorem sampled_status (s : State) (msz : BitVec 3) (p c : Bool) : (s.sampled msz p c).status = s.status := by
  simp [State.sampled]

theorem beginSequence_configRead_status (s : State) (x : ConfigSlot) :
    (beginSequence s (.configRead x)).status = s.status := by
  simp [beginSequence, prepareSequence, State.claimControl]

/-- With an idle control unit the read of the primary slot begins at once (R172). -/
theorem leaveReset_idle {s : State} (hc : s.control.current = none) (hw : s.control.waiting = [])
    (msz : BitVec 3) (pwarnHigh cstrbHigh : Bool) : leaveReset s msz pwarnHigh cstrbHigh =
      (beginSequence (s.sampled msz pwarnHigh cstrbHigh) (.configRead .primary)).setStatus
        (if pwarnHigh then s.status else takeRaise s.status .powerWarning .none none) := by
  rw [leaveReset_eq, requestSequence_idle (s.sampled msz pwarnHigh cstrbHigh) _ hc hw]
  have hstatus : (beginSequence (s.sampled msz pwarnHigh cstrbHigh) (.configRead .primary)).status = s.status :=
    (beginSequence_configRead_status _ _).trans (sampled_status s msz pwarnHigh cstrbHigh)
  obtain ⟨hcurrent, -⟩ := beginSequence_spec (s.sampled msz pwarnHigh cstrbHigh) (.configRead .primary)
  have hop : (beginSequence (s.sampled msz pwarnHigh cstrbHigh) (.configRead .primary)).txn.op =
      .startup .loading := by rw [beginSequence_txn]; rfl
  generalize beginSequence (s.sampled msz pwarnHigh cstrbHigh) (.configRead .primary) = v at hstatus hcurrent hop ⊢
  cases pwarnHigh
  · rw [if_neg (by decide), if_neg (by decide), raiseWarning,
      raiseEvent_of_startup (by rw [hop]; rfl) (by simp [hcurrent]), hstatus]
  · rw [if_pos rfl, if_pos rfl, ← hstatus]
    rfl

@[simp] theorem startTimer_cycle (s : State) : (startTimer s).host.cycle = s.host.cycle := by
  unfold startTimer
  split
  · split <;> simp [*]
  · rfl

/-- A reset leaves every byte but that of the write in flight, which it may let land (R111). -/
theorem tornMemory_read {s : State} (hmem : MemoryLaw s) (a : Nat) :
    (tornMemory s).read a = s.mem.read a ∨
      ∃ m, s.port.inFlight = some m ∧ m.isWrite = true ∧ m.addr.toNat = a ∧ (tornMemory s).read a = m.data := by
  unfold tornMemory
  split
  case h_1 m hm =>
    split
    case isFalse => exact .inl rfl
    case isTrue hw =>
      by_cases ha : m.addr.toNat = a
      · exact .inr ⟨m, hm, (Bool.and_eq_true_iff.mp hw).1, ha, ha ▸ Memory.read_write_same _ _ _ hmem⟩
      · exact .inl (Memory.read_write_other _ _ _ _ ha)
  case h_2 => exact .inl rfl

end Sys2Proof.Machine

namespace Sys2Proof

open Machine

/-- Settles O4: a reset is defined block by block, and tears at most the write in flight. -/
theorem resetAssertClearsEveryBlock : Obligations.ResetAssertClearsEveryBlock := by
  intro s hmem
  refine ⟨_, rfl, ?_⟩
  have htorn := tornMemory_read hmem
  simpa [resetBlocks, State.reset, State.cbusy, State.rdy, State.attn, State.hwait, OpState.isStartup] using htorn

/-- Settles O5: the reset's end asks for the read of the primary slot, which the free port grants. -/
theorem resetEndSamplesAndBeginsLoading : Obligations.ResetEndSamplesAndBeginsLoading := by
  refine ⟨by decide, fun s msz pwarnHigh cstrbHigh hr hfree hh hcl he hc hw => ?_⟩
  refine ⟨settle (leaveReset s msz pwarnHigh cstrbHigh), by simp [exec, execResetEnd, hr], ?_⟩
  rw [leaveReset_idle hc hw]
  generalize hst : (if pwarnHigh then s.status else takeRaise s.status .powerWarning .none none) = st
  have hqueue : st.queue = if pwarnHigh then s.status.queue
      else (takeRaise s.status .powerWarning .none none).queue := by
    rw [← hst]
    cases pwarnHigh <;> rfl
  obtain ⟨hcur, hdone, -, hclaim⟩ := beginSequence_spec (s.sampled msz pwarnHigh cstrbHigh) (.configRead .primary)
  generalize hu : (beginSequence (s.sampled msz pwarnHigh cstrbHigh) (.configRead .primary)).setStatus st = u
  have harb : arbitrate u = grantControl u := by
    have hd : decideGrant u.port = some .control := by
      rw [decideGrant_control_iff, ← hu]
      refine .inr ⟨fun h => ?_, ?_, by simpa using hclaim⟩
      · simpa [State.sampled, he] using h.1
      · simp [State.sampled, hh]
    exact (arbitrate_of_free (by simp [← hu, State.sampled, hfree])).2.1 hd
  have hcurrent : u.control.current = some (.configRead .primary) := by rw [← hu]; exact hcur
  refine ⟨?_, ?_, ?_, ?_, ?_, by simpa using hcurrent, ?_, ?_, ?_, ?_, ?_, ?_, ?_, ?_, ?_, fun a => ?_⟩
  case refine_6 =>
    have hcapture : captureControl u = u := by rw [captureControl, hcurrent]
    have hprogress : u.config.progress = 0 := by rw [← hu]; rfl
    have hbase : u.controlBase = strapSize msz * 1024 - 512 := by rw [← hu]; rfl
    rw [settle_port, harb, grantControl_port, hcapture, controlCycle, hcurrent]
    simp only [Option.map_some, sequenceCycle, hprogress, hbase]
    rfl
  case refine_14 =>
    rw [settle, startTimer_cycle, harb, grantControl_host, ← hu]
    rfl
  all_goals simp [← hu, State.sampled, hqueue]

end Sys2Proof
end

section
/-! SUPPORT. Ends of a host cycle: the expiry of its hold (R85, R86), the end of its memory cycle (R67, R68), and an
append at a boundary (R17, R19). -/

namespace Sys2Proof.Machine

/-! ### The close of a step at the host port -/

@[simp] theorem sequences_settle (s : State) : (settle s).sequences = s.sequences := by simp [State.sequences]

/-- A claim of the host path that does not stand is not placed by the close of the step. -/
theorem settle_claimHost_of_false {s : State} (h : s.port.claimHost = false) :
    (settle s).port.claimHost = false := by
  rw [settle_port]
  rcases arbitrate_cases s with ⟨he, -⟩ | ⟨-, -, he⟩ | ⟨-, -, he⟩ | ⟨-, -, he⟩ <;> rw [he]
  · exact h
  · rw [grantHost_port]
  · rw [grantControl_port]; simpa using h
  · rw [grantEngine_port]; exact h

/-- Where a cycle waits for no grant, and its timer runs or it needs none, the host port stays as it is. -/
theorem settle_host_of_stands {s : State} {c : HostCycle} (hc : s.host.cycle = some c)
    (hcause : c.cause ≠ some .memory) (htimer : c.cause.isSome = true → s.host.hold.isSome = true) :
    (settle s).host = s.host := by
  have harb : (arbitrate s).host = s.host := arbitrate_host_cycle s c hc hcause
  rw [settle, ← harb]
  unfold startTimer
  split
  case h_1 c' hc' hh =>
    rw [harb] at hc' hh
    obtain rfl : c = c' := by simpa [hc] using hc'
    exact congrArg State.host (if_neg fun hs => by simp [hh] at htimer; simp [htimer] at hs)
  case h_2 => rfl

/-! ### The end of a host cycle, and the staged read it releases (R68, R161) -/

/-- The end asks for the staged-slot read that waited for it. -/
theorem releaseStagedRead_spec (s : State) : (releaseStagedRead s).config.readWaits = false ∧
    (releaseStagedRead s).sequences =
      s.sequences ++ (if s.config.readWaits = true then [.configRead .staged] else []) := by
  unfold releaseStagedRead
  split
  case isTrue h =>
    rw [requestSequence_sequences]
    refine ⟨?_, rfl⟩
    unfold requestSequence
    split <;> rfl
  case isFalse h => exact ⟨by simpa using h, by simp⟩

/-- What waited for the end of the host cycle is released, whatever ended it. -/
theorem endWithFault_releases {s : State} (hc : s.host.cycle.isSome = true) :
    (endWithFault s).config.readWaits = false ∧ (endWithFault s).sequences =
      s.sequences ++ (if s.config.readWaits = true then [.configRead .staged] else []) := by
  obtain ⟨c, hc⟩ := Option.isSome_iff_exists.mp hc
  simp only [endWithFault, hc]
  split
  · exact releaseStagedRead_spec _
  · exact releaseStagedRead_spec _

theorem count_raiseEvent (s : State) (k : EventKind) (d : EventDetail) (a : Option Nat) (x : ConfigSlot) :
    (raiseEvent s k d a).sequences.count (.configRead x) = s.sequences.count (.configRead x) := by
  rcases raiseEvent_sequences s k d a with h | h <;> simp [h]

theorem stagedReadReleased_endWithFault {s u : State} (hc : u.host.cycle.isSome = true)
    (hwaits : u.config.readWaits = s.config.readWaits)
    (hcount : u.sequences.count (.configRead .staged) = s.sequences.count (.configRead .staged)) :
    StagedReadReleased s (endWithFault u) := by
  obtain ⟨hreleased, hseq⟩ := endWithFault_releases hc
  refine ⟨hreleased, ?_⟩
  rw [hseq, List.count_append, hcount, hwaits]
  split <;> simp

theorem StagedReadReleased.of_eq {s u t : State} (h : StagedReadReleased s u)
    (hconfig : t.config = u.config) (hcontrol : t.control = u.control) : StagedReadReleased s t := by
  obtain ⟨hwaits, hcount⟩ := h
  rw [← hconfig] at hwaits
  rw [State.sequences, ← hcontrol] at hcount
  exact ⟨hwaits, hcount⟩

theorem StagedReadReleased.settle {s u : State} (h : StagedReadReleased s u) : StagedReadReleased s (settle u) :=
  h.of_eq (settle_config u) (settle_control u)

/-! ### The expiry of a hold (R85, R86) -/

/-- The queue and the dropped counter after a raise depend on nothing else of the status unit. -/
theorem takeRaise_congr {st st' : Status} (hq : st'.queue = st.queue) (hd : st'.dropped = st.dropped) (k : EventKind)
    (d : EventDetail) (a : Option Nat) : (takeRaise st' k d a).queue = (takeRaise st k d a).queue ∧
      (takeRaise st' k d a).dropped = (takeRaise st k d a).dropped := by
  unfold takeRaise
  rw [hq]
  (repeat' split) <;> simp [hd]

/-- The reports of an expiry outside STARTUP, before the cycle ends (R85). -/
def State.expiryReported (s : State) (c : HostCycle) : State :=
  let u := raiseEvent (s.setStatus { s.status with expired := sat16 s.status.expired }) .holdExpired .none
    (some c.addr.toNat)
  if c.isWrite then markShort u else u

theorem expireCycle_startup {s : State} {c : HostCycle} (hc : s.host.cycle = some c)
    (hst : s.txn.op.isStartup = true) : expireCycle s = faultInStartup s := by
  simp [expireCycle, hc, hst]

theorem expireCycle_eq {s : State} {c : HostCycle} (hc : s.host.cycle = some c)
    (hst : s.txn.op.isStartup = false) : expireCycle s = endWithFault (s.expiryReported c) := by
  simp [expireCycle, hc, hst, State.expiryReported]

/-- The reports of an expiry, block by block. -/
theorem expiryReported_spec (s : State) (c : HostCycle) :
    (s.expiryReported c).status.expired = sat16 s.status.expired ∧
    (s.expiryReported c).status.startFaults = s.status.startFaults ∧
    (s.expiryReported c).status.queue = (takeRaise s.status .holdExpired .none (some c.addr.toNat)).queue ∧
    (s.expiryReported c).status.dropped = (takeRaise s.status .holdExpired .none (some c.addr.toNat)).dropped ∧
    (s.expiryReported c).txn = { s.txn with frames := if c.isWrite then s.framesAfterFault else s.txn.frames } ∧
    (s.expiryReported c).config.readWaits = s.config.readWaits ∧
    (s.expiryReported c).sequences.count (.configRead .staged) = s.sequences.count (.configRead .staged) ∧
    (s.expiryReported c).host = s.host := by
  obtain ⟨hq, hd⟩ := takeRaise_congr (st := s.status)
    (st' := { s.status with expired := sat16 s.status.expired }) rfl rfl .holdExpired .none (some c.addr.toNat)
  have hcount := count_raiseEvent (s.setStatus { s.status with expired := sat16 s.status.expired }) .holdExpired .none
    (some c.addr.toNat) .staged
  unfold State.expiryReported
  simp only
  split
  · refine ⟨by simp, by simp, by simpa using hq, by simpa using hd, ?_, by simp, ?_, by simp⟩
    · rw [framesAfterFault_eq]
      simp [State.framesAfterFault]
    · simpa [State.sequences] using hcount
  · exact ⟨by simp, by simp, by simpa using hq, by simpa using hd, by simp, by simp,
      by simpa [State.sequences] using hcount, by simp⟩

theorem hostCycleFrame_expireCycle (s : State) : HostCycleFrame s (expireCycle s) :=
  ⟨by constructor <;> simp, by constructor <;> simp, by simp, by simp, by simp, by simp, fun a => by simp⟩

/-- What a step leaves in which a held cycle has expired, of a state `u` that agrees with `s` in all it reads (R85). -/
structure Expired (s t : State) (c : HostCycle) : Prop where
  cycle    : t.host.cycle = none
  hwait    : t.hwait = false
  hfault   : t.hfault = true
  refused  : t.status.refused = s.status.refused
  staged   : StagedReadReleased s t
  outside  : s.txn.op.isStartup = false →
    t.status.expired = sat16 s.status.expired ∧ t.status.startFaults = s.status.startFaults ∧
    t.status.queue = (takeRaise s.status .holdExpired .none (some c.addr.toNat)).queue ∧
    t.status.dropped = (takeRaise s.status .holdExpired .none (some c.addr.toNat)).dropped ∧
    t.txn = { s.txn with frames := if c.isWrite then s.framesAfterFault else s.txn.frames }
  startup  : s.txn.op.isStartup = true →
    t.status.startFaults = sat16 s.status.startFaults ∧ t.status.expired = s.status.expired ∧
    t.status.queue = s.status.queue ∧ t.txn = s.txn

theorem expired_settle (s : State) {c : HostCycle} (hc : s.host.cycle = some c) :
    Expired s (settle (expireCycle s)) c := by
  have hsome : s.host.cycle.isSome = true := by simp [hc]
  cases hst : s.txn.op.isStartup
  case true =>
    rw [expireCycle_startup hc hst]
    obtain ⟨hcycle, hwait, hfault⟩ := settle_endWithFault
      (u := s.setStatus { s.status with startFaults := sat16 s.status.startFaults }) hsome
    exact ⟨hcycle, hwait, hfault, by simp, StagedReadReleased.settle (stagedReadReleased_endWithFault
      (u := s.setStatus { s.status with startFaults := sat16 s.status.startFaults }) hsome rfl rfl),
      fun h => by simp [hst] at h, fun _ => by simp [faultInStartup]⟩
  case false =>
    rw [expireCycle_eq hc hst]
    obtain ⟨hexpired, hfaults, hqueue, hdropped, htxn, hwaits, hcount, hhost⟩ := expiryReported_spec s c
    have hsome' : (s.expiryReported c).host.cycle.isSome = true := by rw [hhost, hsome]
    obtain ⟨hcycle, hwait, hfault⟩ := settle_endWithFault hsome'
    refine ⟨hcycle, hwait, hfault, ?_, (stagedReadReleased_endWithFault hsome' hwaits hcount).settle,
      fun _ => ⟨?_, ?_, ?_, ?_, ?_⟩, fun h => by simp [hst] at h⟩
    · have hr : (expireCycle s).status.refused = s.status.refused := by simp
      rw [expireCycle_eq hc hst] at hr
      simpa using hr
    all_goals simp [hexpired, hfaults, hqueue, hdropped, htxn]

theorem exec_holdExpired {s : State} {timer : HoldTimer} (hreset : s.resetting = false) (hh : s.host.hold = some timer)
    (hlimit : timer.limit ≠ 0) (hcount : timer.count < timer.limit) :
    exec .holdExpired s = .next (settle (expireHold (timerAtLimit s timer))) := by
  have hruns : timer.runs = true := by simp [HoldTimer.runs, hlimit, hcount]
  simp [exec, execHoldExpired, unlessResetting, hreset, holdExpires, hh, hruns]

theorem hostCycleFrame_timerAtLimit (s : State) (timer : HoldTimer) : HostCycleFrame s (timerAtLimit s timer) :=
  ⟨⟨rfl, rfl, rfl, rfl, rfl, rfl, rfl⟩, ⟨rfl, rfl, rfl, rfl⟩, rfl, rfl, rfl, rfl, fun _ => rfl⟩

/-- A held cycle with no append expires at once, its claim withdrawn if it has one (R85). -/
theorem expireHold_of_cause {s : State} {c : HostCycle} {x : HoldCause} (hc : s.host.cycle = some c)
    (hx : c.cause = some x) (hne : x ≠ .append) :
    expireHold s = expireCycle (if x = .memory then s.withdrawHost else s) := by
  simp only [expireHold, hc, hx]
  cases x
  case append => exact absurd rfl hne
  all_goals rfl

/-- The expiry of an append's hold, by where the append stands (R19, R86). -/
theorem expireHold_of_append {s : State} {c : HostCycle} {a : Append} (hc : s.host.cycle = some c)
    (hx : c.cause = some .append) (ha : s.journal.append = some a) : expireHold s = abandonOn s a .expiry := by
  simp only [expireHold, hc, hx, ha]

/-- A cause to abandon an append is void, recorded, or taken at once (R19, R86). -/
theorem abandonOn_eq (s : State) (a : Append) (x : AbandonCause) :
    (s.inFlightFor .host = true → a.progress = s.geometry.granule + (s.geometry.granule + 10) → abandonOn s a x = s) ∧
    (s.inFlightFor .host = true → a.progress ≠ s.geometry.granule + (s.geometry.granule + 10) →
      abandonOn s a x = markAbandon s a x) ∧
    (s.inFlightFor .host = false → abandonOn s a x = abandonAppend s x) := by
  unfold abandonOn hostByteGranted appendBefore recordSize
  refine ⟨fun h hp => ?_, fun h hp => ?_, fun h => ?_⟩
  · rw [if_pos (by simp [h, hp])]
  · rw [if_neg (by simp [hp]), if_pos h]
  · rw [if_neg (by simp [h]), if_neg (by simp [h])]

/-- An expiry reads nothing of the host port but the cycle, and nothing of the append or of the host claim. -/
theorem Expired.of_eq {s u t : State} {c : HostCycle} (h : Expired u t c) (hstatus : u.status = s.status)
    (htxn : u.txn = s.txn) (hcontrol : u.control = s.control) (hconfig : u.config = s.config) : Expired s t c := by
  obtain ⟨h1, h2, h3, h4, ⟨h5, h6⟩, h7, h8⟩ := h
  rw [State.framesAfterFault] at h7
  have hseq : u.sequences = s.sequences := by simp [State.sequences, hcontrol]
  rw [hseq, hconfig] at h6
  rw [hstatus, htxn] at h7 h8
  exact ⟨h1, h2, h3, h4.trans (by rw [hstatus]), ⟨h5, h6⟩, h7, h8⟩

end Sys2Proof.Machine

namespace Sys2Proof

open Machine

/-- Settles O26: the row brings the timer to its limit, and the cycle ends at once. -/
theorem holdExpiryEndsTheCycle : Obligations.HoldExpiryEndsTheCycle := by
  intro s c x timer hreset hc hx hne hh hlimit hcount
  refine ⟨_, exec_holdExpired hreset hh hlimit hcount, ?_⟩
  obtain ⟨u, hu, hcycle, hstatus, htxn, hcontrol, hconfig, hjournal, hclaim, hframe⟩ :
      ∃ u, expireHold (timerAtLimit s timer) = expireCycle u ∧ u.host.cycle = some c ∧ u.status = s.status ∧
        u.txn = s.txn ∧ u.control = s.control ∧ u.config = s.config ∧ u.journal = s.journal ∧
        (x = .memory → u.port.claimHost = false) ∧ HostCycleFrame s u := by
    refine ⟨_, expireHold_of_cause (s := timerAtLimit s timer) hc hx hne, ?_⟩
    split
    · exact ⟨hc, rfl, rfl, rfl, rfl, rfl, fun _ => rfl,
        ⟨rfl, rfl, rfl, rfl, rfl, rfl, rfl⟩, ⟨rfl, rfl, rfl, rfl⟩, rfl, rfl, rfl, rfl, fun _ => rfl⟩
    case isFalse hm => exact ⟨hc, rfl, rfl, rfl, rfl, rfl, fun h => absurd h hm, hostCycleFrame_timerAtLimit s timer⟩
  rw [hu]
  obtain ⟨h1, h2, h3, h4, h5, h6, h7⟩ := (expired_settle u hcycle).of_eq hstatus htxn hcontrol hconfig
  exact ⟨h1, h2, h3, fun hm => settle_claimHost_of_false (by simpa using hclaim hm), h4, by simp [hjournal],
    (hframe.trans (hostCycleFrame_expireCycle u)).trans (hostCycleFrame_settle _), h5, h6, h7⟩

/-- Settles O27: a void expiry leaves the timer at its limit; an append is abandoned by where it stands. -/
theorem holdExpiryOnAnAppend : Obligations.HoldExpiryOnAnAppend := by
  intro s c timer hreset hc hh hlimit hcount void
  have hexec := exec_holdExpired hreset hh hlimit hcount
  have hframe := hostCycleFrame_timerAtLimit s timer
  have hstands : c.cause ≠ some .memory → (settle (timerAtLimit s timer)).host = (timerAtLimit s timer).host :=
    fun hm => settle_host_of_stands (s := timerAtLimit s timer) hc hm fun _ => rfl
  have hvoid : c.cause ≠ some .memory → void (settle (timerAtLimit s timer)) := fun hm =>
    ⟨hstands hm, by simp, by simp, by simp [State.sequences], by constructor <;> simp⟩
  refine ⟨fun hcause => ?_, fun a hcause ha hw hop => ?_⟩
  · have he : expireHold (timerAtLimit s timer) = timerAtLimit s timer := by
      simp [expireHold, timerAtLimit, hc, hcause]
    rw [he] at hexec
    exact ⟨_, hexec, hframe.trans (hostCycleFrame_settle _), hvoid (by simp [hcause])⟩
  · have hm : c.cause ≠ some .memory := by simp [hcause]
    rw [expireHold_of_append (s := timerAtLimit s timer) hc hcause ha] at hexec
    obtain ⟨hgranted, hlater, hnow⟩ := abandonOn_eq (timerAtLimit s timer) a .expiry
    refine ⟨_, hexec, HostCycleFrame.trans ?_ (hostCycleFrame_settle _), fun hi hp => ?_, fun hi hp => ?_, fun hi => ?_⟩
    · exact hframe.trans ⟨by constructor <;> simp, by constructor <;> simp, by simp, by simp, by simp, by simp, fun a => by simp⟩
    · rw [hgranted hi hp]
      exact hvoid hm
    · rw [hlater hi hp]
      refine ⟨?_, by simp, by constructor <;> simp, by simp [markAbandon]⟩
      rw [settle_host_of_stands (s := markAbandon (timerAtLimit s timer) a .expiry) hc hm fun _ => rfl]
      exact hc
    · rw [hnow hi]
      have hready : s.txn.op ≠ .committing := by simp [hop]
      obtain ⟨h1, h2, h3, h4, h5, h6, -⟩ := (expired_settle ((timerAtLimit s timer).setJournal
        { s.journal with append := none }).withdrawHost hc).of_eq (s := s) rfl rfl rfl rfl
      obtain ⟨hexpired, hfaults, hqueue, hdropped, htxn⟩ := h6 (by rw [hop]; rfl)
      refine ⟨h1, h2, h3, settle_claimHost_of_false ?_, ?_, h5, ?_, hexpired, h4, hfaults, hqueue, hdropped⟩
      · simp [abandonAppend, State.withdrawHost]
      · simp [abandonAppend, State.withdrawHost]
      · rw [hw, if_pos rfl, State.framesAfterFault, if_neg hready] at htxn
        exact htxn

end Sys2Proof
end

section
/-! SUPPORT. The end of a memory cycle of the host path that is not an append's last: a passing host cycle ends (R67,
R68), and an append goes on or is abandoned (R17, R19). -/

namespace Sys2Proof.Machine

/-! ### The row MEMORY_CYCLE_COMPLETE -/

theorem exec_memoryCycleComplete_due {s : State} {who : Claimant} {m : MemCycle} (h : CycleDue s who m) :
    exec .memoryCycleComplete s = .next (settle (claimantGoesOn (landCycle s m) who (cycleByte s m))) := by
  rw [exec_memoryCycleComplete s m h.noReset h.inFlight, cycleEnds, h.claimant]

/-- The byte a memory cycle hands over: the one written, or the one at its address. -/
theorem cycleByte_eq (s : State) (m : MemCycle) :
    cycleByte s m = if m.isWrite then m.data else s.mem.read m.addr.toNat := rfl

@[simp] theorem sequences_landCycle (s : State) (m : MemCycle) : (landCycle s m).sequences = s.sequences := by
  simp [State.sequences]

theorem surroundings_landCycle (s : State) (m : MemCycle) : Surroundings s (landCycle s m) := by constructor <;> simp

theorem sameCommand_landCycle (s : State) (m : MemCycle) : SameCommand s (landCycle s m) := by constructor <;> simp

/-! ### A passing cycle ends (R68, R161) -/

theorem sequences_eq_nil_iff (s : State) : s.sequences = [] ↔ s.control.current = none ∧ s.control.waiting = [] := by
  simp [State.sequences, Option.toList_eq_nil_iff]

/-- A slot read that begins at once sets its buffer progress to 0 (R155). -/
theorem requestSequence_configRead_config (s : State) (x : ConfigSlot) : (requestSequence s (.configRead x)).config =
    { s.config with progress := if s.sequences = [] then 0 else s.config.progress } := by
  by_cases hidle : s.control.current = none ∧ s.control.waiting = []
  · rw [requestSequence_idle s _ hidle.1 hidle.2, if_pos ((sequences_eq_nil_iff s).mpr hidle)]
    rfl
  · rw [requestSequence_busy s _ (by rwa [not_and_or, ← ne_eq, ← Option.isSome_iff_ne_none] at hidle),
      if_neg (mt (sequences_eq_nil_iff s).mp hidle)]
    rfl

theorem releaseStagedRead_config (s : State) : (releaseStagedRead s).config = { s.config with
    readWaits := false
    progress := if s.config.readWaits = true ∧ s.sequences = [] then 0 else s.config.progress } := by
  unfold releaseStagedRead
  split
  case isTrue h =>
    rw [requestSequence_configRead_config]
    by_cases hs : s.sequences = [] <;> simp [h, hs]
  case isFalse h =>
    have hr : s.config.readWaits = false := by simpa using h
    rw [if_neg (fun hx => h hx.1), ← hr]

/-! ### An append at a boundary (R17, R19) -/

/-- The payload buffer after a cycle of an append: a byte read joins it at its place (R17). -/
def appendPayload (s : State) (a : Append) (b : Byte) : List Byte :=
  if a.progress < s.geometry.granule then s.journal.payload.take a.progress ++ [b] else s.journal.payload

theorem appendGoesOn_none {s : State} {a : Append} (h : a.abandon = none) (b : Byte) : appendGoesOn s a b =
    (s.setJournal { s.journal with
      payload := appendPayload s a b, append := some { a with progress := a.progress + 1 } }).claimHost := by
  simp only [appendGoesOn, h]
  rfl

theorem appendGoesOn_some {s : State} {a : Append} {x : AbandonCause} (h : a.abandon = some x) (b : Byte) :
    appendGoesOn s a b = abandonAppend (s.setJournal { s.journal with payload := appendPayload s a b }) x := by
  simp only [appendGoesOn, h]
  rfl

/-- The host path's claim for an append stands after the decision, or is granted. -/
theorem arbitrate_append_claim {s : State} (hclaim : s.port.claimHost = true) (ha : s.journal.append.isSome = true) :
    (arbitrate s).port.claimHost = true ∨ (arbitrate s).inFlightFor .host = true := by
  rcases arbitrate_claimHost hclaim with ⟨-, hgrant⟩ | ⟨-, -, hstands⟩
  · obtain ⟨a, ha⟩ := Option.isSome_iff_exists.mp ha
    have hm : hostCycle s = some (appendCycle s a) := by simp [hostCycle, ha]
    exact .inr (by simp [State.inFlightFor, hgrant, grantHost_port, hm, hostCycle_claimant s _ hm])
  · exact .inl hstands

end Sys2Proof.Machine

namespace Sys2Proof

open Machine

/-- Settles O28: the host cycle ends, and the step closes with the port free for the next grant. -/
theorem passingHostCycleEnds : Obligations.PassingHostCycleEnds := by
  intro s c m hdue happ hc hw
  refine ⟨_, exec_memoryCycleComplete_due hdue, ?_⟩
  have hgo : claimantGoesOn (landCycle s m) .host (cycleByte s m) = endNormally (landCycle s m) (cycleByte s m) := by
    simp [claimantGoesOn, hostCycleEnds, happ]
  rw [hgo]
  have hhost := endNormally_host (landCycle s m) (cycleByte s m) c (by simpa using hc)
  have hsettled := settle_host_of_none (endNormally (landCycle s m) (cycleByte s m)) (by rw [hhost])
  have heq : endNormally (landCycle s m) (cycleByte s m) = releaseStagedRead ((landCycle s m).setHost
      (endNormally (landCycle s m) (cycleByte s m)).host) := by
    rw [hhost]
    simp [endNormally, hc]
  obtain ⟨-, hseq⟩ := releaseStagedRead_spec ((landCycle s m).setHost
    (endNormally (landCycle s m) (cycleByte s m)).host)
  have hconfig := releaseStagedRead_config ((landCycle s m).setHost
    (endNormally (landCycle s m) (cycleByte s m)).host)
  rw [← heq] at hseq hconfig
  refine ⟨?_, memoryAfter_of_mem_eq s _ m hdue.canon (by simp), by constructor <;> simp,
    by constructor <;> simp, by constructor <;> simp, by simp, by simp, by simp, by simp, by simpa using hseq,
    by simpa using hconfig, fun hr => ?_⟩
  · rw [hsettled, hhost, cycleByte_eq, hw]
    cases c.isWrite <;> simp
  · rw [hsettled, settle, startTimer_of_noCause]
    · conv_lhs => rw [heq, releaseStagedRead, if_neg (by simp [hr])]
    · have hstay := settle_host_of_none (endNormally (landCycle s m) (cycleByte s m)) (by rw [hhost])
      intro x hx
      have : (settle (endNormally (landCycle s m) (cycleByte s m))).host.cycle = some x := by
        rw [settle, startTimer_cycle, hx]
      simp [hstay, hhost] at this

/-- Settles O30: the boundary keeps the byte, and abandons the append where a cause was recorded. -/
theorem appendGoesOnOrIsAbandoned : Obligations.AppendGoesOnOrIsAbandoned := by
  intro s c m a hdue ha hp hc hcause hw hop payload
  refine ⟨_, exec_memoryCycleComplete_due hdue, ?_⟩
  have hgo : claimantGoesOn (landCycle s m) .host (cycleByte s m) = appendGoesOn (landCycle s m) a (cycleByte s m) := by
    have hlast : appendAtHostByte (landCycle s m) a = false := by
      simpa [appendAtHostByte, appendBefore, recordSize] using hp
    simp [claimantGoesOn, hostCycleEnds, ha, hlast]
  rw [hgo]
  have hpayload : appendPayload (landCycle s m) a (cycleByte s m) = payload := by
    simp [appendPayload, payload, cycleByte_eq]
  refine ⟨memoryAfter_of_mem_eq s _ m hdue.canon (by simp), by simp, by constructor <;> simp, ?_, by simp,
    fun hx => ?_, fun x hx => ?_⟩
  · cases hx : a.abandon with
    | none => rw [appendGoesOn_none hx]; constructor <;> simp [State.claimHost]
    | some x =>
      rw [appendGoesOn_some hx]
      cases x <;> constructor <;> simp [abandonAppend, State.withdrawHost]
  · rw [appendGoesOn_none hx, hpayload, landCycle_journal]
    refine ⟨by simp, ?_, by simp [State.claimHost], by constructor <;> simp [State.claimHost], ?_⟩
    · rw [settle, startTimer_cycle, arbitrate_host_cycle _ c]
      · simpa [State.claimHost] using hc
      · simpa [State.claimHost] using hc
      · simp [hcause]
    · have := arbitrate_append_claim (s := ((landCycle s m).setJournal { s.journal with
        payload := payload, append := some { a with progress := a.progress + 1 } }).claimHost) rfl rfl
      simpa [State.inFlightFor] using this
  · rw [appendGoesOn_some hx, hpayload, landCycle_journal]
    have hframes : s.framesAfterFault = markTopShort s.txn.frames := if_neg (by simp [hop])
    generalize hu : (((landCycle s m).setJournal { s.journal with payload := payload }).setJournal
      { s.journal with payload := payload, append := none }).withdrawHost = u
    have hab : abandonAppend ((landCycle s m).setJournal { s.journal with payload := payload }) x =
        match x with
        | .power => refuseWrite u .power
        | .expiry => expireCycle u := by rw [← hu]; cases x <;> rfl
    have hcycle : u.host.cycle = some c := by simpa [← hu, State.withdrawHost] using hc
    have hstatus : u.status = s.status := by simp [← hu, State.withdrawHost]
    have htxn : u.txn = s.txn := by simp [← hu, State.withdrawHost]
    have hjournal : u.journal = { s.journal with payload := payload, append := none } := by
      simp [← hu, State.withdrawHost]
    have hclaim : u.port.claimHost = false := by simp [← hu, State.withdrawHost]
    rw [hab]
    cases x with
    | power =>
      obtain ⟨h1, h2, h3, h4, -, h5, h6, -, h7, h8, -⟩ := refused_settle hcycle rfl rfl rfl
        (HostCycleFrame.refl u) .power
      rw [State.framesAfterFault, htxn, ← State.framesAfterFault, hframes] at h7
      rw [hstatus] at h4 h5 h6
      exact ⟨h8.trans hjournal, h1, h2, h3, settle_claimHost_of_false (by simpa using hclaim), h7,
        fun _ => ⟨h5, h6, h4⟩, nofun⟩
    | expiry =>
      obtain ⟨h1, h2, h3, h4, -, h5, -⟩ := expired_settle u hcycle
      obtain ⟨hexpired, -, hqueue, -, htxn'⟩ := h5 (by rw [htxn, hop]; rfl)
      rw [State.framesAfterFault, htxn, ← State.framesAfterFault, hframes, hw, if_pos rfl] at htxn'
      rw [hstatus] at h4 hexpired hqueue
      exact ⟨by simp [hjournal], h1, h2, h3, settle_claimHost_of_false (by simpa using hclaim), htxn',
        nofun, fun _ => ⟨hexpired, h4, hqueue⟩⟩

end Sys2Proof
end

section
/-! SUPPORT. The power warning: what its assertion does to a run and to a host write (R81, R102, R118, R183 to R185),
and what its negation resumes and asks for (R103, R144). -/

namespace Sys2Proof.Machine

/-! ### The negation (R103, R144) -/

/-- The event area's write clears the update-owed flag at its first cycle alone (R144, R145). -/
theorem captureUpdate_status_owed {s : State} {k : UpdateKind} (h : s.control.done ≠ s.status.snapReads + 64) :
    (captureUpdate s k).status.owed = s.status.owed := by
  have harea : captureArea (captureNumber (captureLive s k s.control.done) s.control.done) s.control.done =
      captureNumber (captureLive s k s.control.done) s.control.done := if_neg (by simpa using h)
  simp [captureUpdate, harea]

/-- A grant takes an owed update only when an event-area write begins with it (R144, R145). -/
theorem settle_owed {s : State} (h : s.port.inFlight.isSome = true ∨ s.port.claimControl = false ∨
    ∀ k, s.control.current = some (.update k) → s.control.done ≠ s.status.snapReads + 64) :
    (settle s).status.owed = s.status.owed := by
  rw [settle_status]
  rcases arbitrate_cases s with ⟨he, -⟩ | ⟨-, -, he⟩ | ⟨hfree, hg, he⟩ | ⟨-, -, he⟩ <;> rw [he]
  · simp
  · have hclaim := (decideGrant_claims _ _ hg).2.1 rfl
    have hdone := (h.resolve_left (by simp [hfree])).resolve_left (by simp [hclaim])
    rw [grantControl, State.setPort_status]
    unfold captureControl
    split
    case h_1 k hk =>
      exact captureUpdate_status_owed (hdone k hk)
    case h_2 => rfl
  · rfl

/-- The update of a negation (R144, R184). -/
theorem updateAsked_updateForNegation (s : State) (settled : Prop) :
    UpdateAsked s (updateForNegation s)
      (s.txn.op.isStartup = true ∧
        ¬(s.control.current = some (.update .final) ∧ s.status.liveBegun = true)) settled := by
  unfold updateForNegation
  split
  case isTrue h => exact updateAsked_of_startup (by simpa [State.finalBegun, imp_iff_not_or] using h)
  case isFalse h => exact updateAsked_requestRaiseUpdate (by simpa [State.finalBegun, imp_iff_not_or] using h)

/-- A negation's request leaves the control unit's claim as it was, or begins a sequence. -/
theorem updateForNegation_claim (s : State) :
    (updateForNegation s).port.claimControl = s.port.claimControl ∨
      ∀ k, (updateForNegation s).control.current = some (.update k) →
        (updateForNegation s).control.done ≠ (updateForNegation s).status.snapReads + 64 := by
  have hrequest : ∀ (u : State) (k : Sequence), (requestSequence u k).port.claimControl = u.port.claimControl ∨
      (requestSequence u k).control.done = 0 := fun u k => by
    by_cases hidle : u.control.current = none ∧ u.control.waiting = []
    · exact .inr (by rw [requestSequence_idle u k hidle.1 hidle.2, (beginSequence_spec u k).2.1])
    · rw [requestSequence_busy u k (by rwa [not_and_or, ← ne_eq, ← Option.isSome_iff_ne_none] at hidle)]
      exact .inl rfl
  unfold updateForNegation requestRaiseUpdate
  (repeat' split)
  · exact .inl rfl
  · exact .inl rfl
  · exact .inl rfl
  · exact (hrequest _ _).imp_right fun hd k _ => by omega

theorem UpdateAsked.of_eq {s u t : State} {startup settled : Prop} (h : UpdateAsked u t startup settled)
    (hstatus : u.status = s.status) (hcontrol : u.control = s.control) (hcommand : u.command = s.command) :
    UpdateAsked s t startup settled := by
  simpa [UpdateAsked, State.sequences, hstatus, hcontrol, hcommand] using h

theorem UpdateAsked.settle {s u : State} {startup settled : Prop} (h : UpdateAsked s u startup settled)
    (hs : settled → (settle u).status.owed = u.status.owed) : UpdateAsked s (settle u) startup settled := by
  obtain ⟨hcarried, hasked⟩ := h
  refine ⟨fun hc => ?_, fun hc => ?_⟩
  · obtain ⟨hseq, ho⟩ := hcarried hc
    exact ⟨by rw [sequences_settle, hseq], fun hx => by rw [hs hx, ho hx]⟩
  · obtain ⟨hseq, ho⟩ := hasked hc
    exact ⟨by rw [sequences_settle, hseq], fun hx => by rw [hs hx, ho hx]⟩

/-! ### The assertion on a host write (R81) -/

/-- The cycle's standing claim and its append are gone when the assertion ends it (R19, R81, R118). -/
def State.withdrawn (s : State) (c : HostCycle) : State :=
  match c.cause with
  | some .memory => s.withdrawHost
  | some .append => (s.setJournal { s.journal with append := none }).withdrawHost
  | _ => s

section
variable {s : State} {c : HostCycle}

/-- The assertion ends the host write in progress at once (R81). -/
def State.EndsWrite (s : State) (c : HostCycle) : Prop :=
  s.txn.op.isStartup = false ∧ (c.cause = some .memory ∨ c.cause = some .abort ∨
    (c.cause = some .append ∧ s.journal.append.isSome = true ∧ s.inFlightFor .host = false))

theorem warningEndsWrite_iff (hc : s.host.cycle = some c) (hw : c.isWrite = true) :
    warningEndsWrite s = true ↔ s.EndsWrite c := by
  simp [warningEndsWrite, hc, hw, State.EndsWrite, or_assoc, and_assoc]

/-- A write that the assertion ends is refused with POWER. -/
theorem hostOnWarning_of_ends (hc : s.host.cycle = some c) (hw : c.isWrite = true) (he : s.EndsWrite c) :
    hostOnWarning s = refuseWrite (s.withdrawn c) .power := by
  obtain ⟨hst, hcause⟩ := he
  simp only [hostOnWarning, hc, hw, if_true, writeUnderWarning]
  rcases hcause with hx | hx | ⟨hx, ha, hflight⟩ <;> simp only [hx, State.withdrawn]
  · exact if_neg (by simp [State.withdrawHost, hst])
  · exact if_neg (by simp [hst])
  · obtain ⟨a, ha⟩ := Option.isSome_iff_exists.mp ha
    simp only [ha]
    exact (abandonOn_eq s a .power).2.2 hflight

/-- An append with a cycle in flight is abandoned at that cycle's end, or goes on (R19). -/
theorem hostOnWarning_of_append {a : Append} (hc : s.host.cycle = some c) (hw : c.isWrite = true)
    (hx : c.cause = some .append) (ha : s.journal.append = some a) : hostOnWarning s = abandonOn s a .power := by
  simp only [hostOnWarning, hc, hw, if_true, writeUnderWarning, hx, ha]

/-- A write held for COMMIT, and one whose memory cycle has been granted, are not affected (R81). -/
theorem hostOnWarning_of_idle (hc : s.host.cycle = some c) (hx : c.cause = some .commit ∨ c.cause = none) :
    hostOnWarning s = s := by
  simp only [hostOnWarning, hc, writeUnderWarning]
  rcases hx with hx | hx <;> simp [hx]

theorem hostOnWarning_of_startup (hc : s.host.cycle = some c) (hw : c.isWrite = true)
    (hx : c.cause = some .memory) (hst : s.txn.op.isStartup = true) :
    hostOnWarning s = faultInStartup s.withdrawHost := by
  simp only [hostOnWarning, hc, hw, if_true, writeUnderWarning, hx]
  exact if_pos hst

/-- Reads, and writes the assertion does not end, report nothing: at most an append is marked (R19, R81). -/
theorem hostOnWarning_quiet (h : ∀ c, s.host.cycle = some c → c.isWrite = true →
    c.cause ≠ some .memory ∧ c.cause ≠ some .abort ∧ (c.cause = some .append → s.inFlightFor .host = true)) :
    hostOnWarning s = s ∨ ∃ a, hostOnWarning s = markAbandon s a .power := by
  unfold hostOnWarning
  split
  · exact .inl rfl
  case h_2 c hc =>
    split
    case isFalse => exact .inl rfl
    case isTrue hw =>
      obtain ⟨hm, hab, happ⟩ := h c hc hw
      unfold writeUnderWarning
      split
      case h_1 hx =>
        split
        · exact .inl rfl
        case h_2 a ha =>
          obtain ⟨hgranted, hlater, -⟩ := abandonOn_eq s a .power
          by_cases hp : a.progress = s.geometry.granule + (s.geometry.granule + 10)
          · exact .inl (hgranted (happ hx) hp)
          · exact .inr ⟨a, hlater (happ hx) hp⟩
      case h_2 hx => exact absurd hx hm
      case h_3 hx => exact absurd hx hab
      all_goals exact .inl rfl

/-- The short flag of the top frame is all the assertion may change of the frames (R43, R185). -/
theorem hostOnWarning_frames (s : State) : (hostOnWarning s).txn.frames = s.txn.frames ∨
    (hostOnWarning s).txn.frames = markTopShort s.txn.frames := by
  have hrefuse : ∀ u : State, u.txn = s.txn → (refuseWrite u .power).txn.frames = s.txn.frames ∨
      (refuseWrite u .power).txn.frames = markTopShort s.txn.frames := fun u hu => by
    cases hc : u.host.cycle with
    | none => simp [refuseWrite, hc, hu]
    | some c =>
      rw [(refuseWrite_status hc .power).2.2.2.2.2, State.framesAfterFault, hu]
      dsimp only
      split
      · exact .inl rfl
      · exact .inr rfl
  have hpower : ∀ u : State, u.txn = s.txn → (faultForPower u).txn.frames = s.txn.frames ∨
      (faultForPower u).txn.frames = markTopShort s.txn.frames := fun u hu => by
    unfold faultForPower
    split
    · exact .inl (by simp [hu])
    · exact hrefuse u hu
  unfold hostOnWarning writeUnderWarning abandonOn
  (repeat' split)
  all_goals first
    | exact .inl rfl
    | exact hpower _ rfl
    | exact hrefuse _ rfl

theorem warningEndsWrite_of_quiet (h : ∀ c, s.host.cycle = some c → c.isWrite = true →
    c.cause ≠ some .memory ∧ c.cause ≠ some .abort ∧ (c.cause = some .append → s.inFlightFor .host = true)) :
    warningEndsWrite s = false := by
  unfold warningEndsWrite
  split
  · rfl
  case h_2 c hc =>
    cases hw : c.isWrite
    · rfl
    · obtain ⟨hm, hab, happ⟩ := h c hc hw
      by_cases hx : c.cause = some .append
      · simp [hx, happ hx]
      · simp [hm, hab, hx]

end

/-- The event of the assertion and the host port's report, in either order (R152). -/
theorem reportWarning_cases (s : State) : ∃ n, reportWarning s = hostOnWarning (raiseWarning (s.setFree n)) ∨
    (warningEndsWrite s = true ∧ reportWarning s = raiseWarning (hostOnWarning (s.setFree n))) := by
  unfold reportWarning
  split
  case isTrue he =>
    refine ⟨s.free + 1, ?_⟩
    split
    · exact .inr ⟨he, rfl⟩
    · exact .inl rfl
  case isFalse => exact ⟨s.free, .inl rfl⟩

@[simp] theorem inFlightFor_raiseWarning (s : State) (c : Claimant) :
    (raiseWarning s).inFlightFor c = s.inFlightFor c := by
  simp [State.inFlightFor, raiseWarning]

/-- What a report of the warning leaves (R185). -/
structure WarningReported (s u : State) : Prop where
  warning  : u.warning = s.warning
  op       : u.txn.op = s.txn.op
  stage    : u.txn.stage = s.txn.stage
  frames   : u.txn.frames = s.txn.frames ∨ u.txn.frames = markTopShort s.txn.frames
  n        : u.journal.n = s.journal.n
  capacity : u.journal.capacity = s.journal.capacity
  epoch    : u.journal.epoch = s.journal.epoch
  slot     : u.journal.slot = s.journal.slot
  geometry : u.journal.geometry = s.journal.geometry
  link     : u.journal.link = s.journal.link
  tracker  : u.tracker = s.tracker
  loaded   : u.config.loaded = s.config.loaded
  decoder  : u.decoder = s.decoder
  command  : u.command = s.command
  mem      : u.mem = s.mem
  engine   : u.engine = s.engine
  inFlight : u.port.inFlight = s.port.inFlight

theorem warningReported (s : State) : WarningReported s (reportWarning s) := by
  obtain ⟨n, he | ⟨-, he⟩⟩ := reportWarning_cases s
  · have hframes := hostOnWarning_frames (raiseWarning (s.setFree n))
    rw [he]
    exact ⟨by simp, by simp, by simp, by simpa using hframes, by simp, by simp, by simp, by simp, by simp, by simp,
      by simp, by simp [raiseWarning], by simp, by simp, by simp, by simp, by simp [raiseWarning]⟩
  · have hframes := hostOnWarning_frames (s.setFree n)
    rw [he]
    exact ⟨by simp, by simp, by simp, by simpa using hframes, by simp, by simp, by simp, by simp, by simp, by simp,
      by simp, by simp [raiseWarning], by simp, by simp, by simp, by simp, by simp [raiseWarning]⟩

/-- Where the assertion ends no write, its own event is all that is reported (R183). -/
theorem reportWarning_quiet {s : State} (h : ∀ c, s.host.cycle = some c → c.isWrite = true →
    c.cause ≠ some .memory ∧ c.cause ≠ some .abort ∧ (c.cause = some .append → s.inFlightFor .host = true)) :
    reportWarning s = raiseWarning s ∨ ∃ a, reportWarning s = markAbandon (raiseWarning s) a .power := by
  have he : reportWarning s = hostOnWarning (raiseWarning s) := by
    simp [reportWarning, warningEndsWrite_of_quiet h]
  rw [he]
  exact hostOnWarning_quiet (by simpa using h)

/-! ### The assertion on a run (R102, R118) -/

theorem engineOnWarning_suspends {s : State} (hrun : s.engine.run = .running) (hi : s.inFlightFor .engine = false) :
    engineOnWarning s = (s.setEngine { s.engine with run := .suspended }).withdrawEngine := by
  simp [engineOnWarning, hrun, hi]

theorem engineOnWarning_keeps {s : State} (h : s.engine.run ≠ .running ∨ s.inFlightFor .engine = true) :
    engineOnWarning s = s := by
  refine if_neg ?_
  rcases h with h | h <;> simp [h]

/-- An engine that does not claim is not granted, nor passed over (R116). -/
theorem settle_engine_idle {s : State} (h : s.port.claimEngine = false) :
    (settle s).port.claimEngine = false ∧ (settle s).port.yieldEngine = s.port.yieldEngine := by
  rw [settle_port]
  rcases arbitrate_cases s with ⟨he, -⟩ | ⟨-, -, he⟩ | ⟨-, -, he⟩ | ⟨-, hg, he⟩ <;> rw [he]
  · exact ⟨h, rfl⟩
  · simp [grantHost_port, h]
  · simp [grantControl_port, h]
  · simp [(decideGrant_claims _ _ hg).2.2 rfl] at h

theorem exec_powerWarningAssert {s : State} (hr : s.resetting = false) (hw : s.warning = false) :
    exec .powerWarningAssert s = .next (settle (engineOnWarning (reportWarning (s.setWarning true)))) := by
  simp [exec, execPowerWarningAssert, unlessResetting, hr, hw, warningAsserts]

/-! ### A host write that the assertion ends (R81, R152) -/

section
variable (s : State) (c : HostCycle)

@[simp] theorem withdrawn_host : (s.withdrawn c).host = s.host := by unfold State.withdrawn; split <;> rfl
@[simp] theorem withdrawn_status : (s.withdrawn c).status = s.status := by unfold State.withdrawn; split <;> rfl
@[simp] theorem withdrawn_txn : (s.withdrawn c).txn = s.txn := by unfold State.withdrawn; split <;> rfl
@[simp] theorem withdrawn_control : (s.withdrawn c).control = s.control := by unfold State.withdrawn; split <;> rfl
@[simp] theorem withdrawn_config : (s.withdrawn c).config = s.config := by unfold State.withdrawn; split <;> rfl

theorem withdrawn_append :
    (s.withdrawn c).journal.append = if c.cause = some .append then none else s.journal.append := by
  unfold State.withdrawn
  split <;> simp_all [State.withdrawHost]

theorem withdrawn_claimHost (h : c.cause = some .memory ∨ c.cause = some .append) :
    (s.withdrawn c).port.claimHost = false := by
  unfold State.withdrawn
  rcases h with h | h <;> rw [h] <;> rfl

end

/-- The reports of a refused write, before the cycle ends (R87). -/
def State.refusalReported (s : State) (r : WriteReason) (a : Addr) : State :=
  let u := raiseRefusal s r a
  markShort (u.setStatus { u.status with refused := sat16 u.status.refused })

theorem refuseWrite_eq {s : State} {c : HostCycle} (hc : s.host.cycle = some c) (r : WriteReason) :
    refuseWrite s r = endWithFault (s.refusalReported r c.addr) := by
  simp [refuseWrite, hc, State.refusalReported]

theorem count_refusalReported (s : State) (r : WriteReason) (a : Addr) (x : ConfigSlot) :
    (s.refusalReported r a).sequences.count (.configRead x) = s.sequences.count (.configRead x) := by
  have hraise : (raiseRefusal s r a).sequences.count (.configRead x) = s.sequences.count (.configRead x) := by
    unfold raiseRefusal
    split <;> exact count_raiseEvent _ _ _ _ _
  simpa [State.refusalReported, State.sequences] using hraise

@[simp] theorem refusalReported_host (s : State) (r : WriteReason) (a : Addr) :
    (s.refusalReported r a).host = s.host := by simp [State.refusalReported]

@[simp] theorem refusalReported_readWaits (s : State) (r : WriteReason) (a : Addr) :
    (s.refusalReported r a).config.readWaits = s.config.readWaits := by simp [State.refusalReported]

/-- A host write in progress in `s` has ended with a fault, whatever was raised besides. -/
structure WriteEnded (s u : State) (c : HostCycle) : Prop where
  cycle       : u.host.cycle = none
  hold        : u.host.hold = none
  hfault      : u.host.hfault = true
  staged      : StagedReadReleased s u
  append      : u.journal.append = if c.cause = some .append then none else s.journal.append
  claim       : c.cause ≠ some .abort → u.port.claimHost = false
  refused     : u.status.refused = sat16 s.status.refused
  expired     : u.status.expired = s.status.expired
  startFaults : u.status.startFaults = s.status.startFaults
  frames      : u.txn.frames = s.framesAfterFault

theorem writeEnded_refuseWrite {s : State} {c : HostCycle} (hc : s.host.cycle = some c)
    (hcause : c.cause = some .memory ∨ c.cause = some .abort ∨ c.cause = some .append) :
    WriteEnded s (refuseWrite (s.withdrawn c) .power) c := by
  have hc' : (s.withdrawn c).host.cycle = some c := by simpa using hc
  obtain ⟨-, -, hrefused, -, -, htxn⟩ := refuseWrite_status hc' .power
  have hsome : ((s.withdrawn c).refusalReported .power c.addr).host.cycle.isSome = true := by simp [hc]
  obtain ⟨hcycle, hhold, hfault⟩ := endWithFault_host _ hsome
  have hcount : ((s.withdrawn c).refusalReported .power c.addr).sequences.count (.configRead .staged) =
      s.sequences.count (.configRead .staged) := by
    rw [count_refusalReported]
    simp [State.sequences]
  have hstaged := stagedReadReleased_endWithFault (s := s) hsome (by simp) hcount
  rw [← refuseWrite_eq hc' .power] at hcycle hhold hfault hstaged
  refine ⟨hcycle, hhold, hfault, hstaged, ?_, fun hne => ?_, ?_, ?_, ?_, ?_⟩
  · rw [refuseWrite_journal, withdrawn_append]
  · rw [refuseWrite_port_claimHost]
    exact withdrawn_claimHost s c (hcause.imp_right fun h => h.resolve_left hne)
  · simpa using hrefused
  · simp
  · simp
  · rw [htxn]
    simp [State.framesAfterFault]

/-- The event of the warning itself changes nothing of that. -/
theorem WriteEnded.raised {s u : State} {c : HostCycle} (h : WriteEnded s u c) : WriteEnded s (raiseWarning u) c := by
  obtain ⟨h1, h2, h3, ⟨h4, h5⟩, h6, h7, h8, h9, h10, h11⟩ := h
  refine ⟨by simpa using h1, by simpa using h2, by simpa using h3, ⟨by simpa [raiseWarning] using h4, ?_⟩,
    by simpa using h6, by simpa [raiseWarning] using h7, by simpa [raiseWarning] using h8,
    by simpa [raiseWarning] using h9, by simpa [raiseWarning] using h10, by simpa using h11⟩
  rw [raiseWarning, count_raiseEvent, h5]

theorem WriteEnded.of_raised {s u : State} {c : HostCycle} (h : WriteEnded (raiseWarning s) u c) :
    WriteEnded s u c := by
  obtain ⟨h1, h2, h3, ⟨h4, h5⟩, h6, h7, h8, h9, h10, h11⟩ := h
  rw [raiseWarning, count_raiseEvent, raiseEvent_config_readWaits] at h5
  exact ⟨h1, h2, h3, ⟨h4, h5⟩, by simpa using h6, h7, by simpa [raiseWarning] using h8,
    by simpa [raiseWarning] using h9, by simpa [raiseWarning] using h10, by simpa [State.framesAfterFault] using h11⟩

theorem WriteEnded.of_setFree {s u : State} {c : HostCycle} {n : Nat} (h : WriteEnded (s.setFree n) u c) :
    WriteEnded s u c :=
  ⟨h.1, h.2, h.3, ⟨h.4.1, h.4.2⟩, h.5, h.6, h.7, h.8, h.9, h.10⟩

theorem faultInStartup_host {s : State} (h : s.host.cycle.isSome = true) :
    (faultInStartup s).host.cycle = none ∧ (faultInStartup s).host.hold = none ∧
      (faultInStartup s).host.hfault = true :=
  endWithFault_host (s.setStatus _) h

theorem faultInStartup_startFaults (s : State) :
    (faultInStartup s).status.startFaults = sat16 s.status.startFaults := by
  simp [faultInStartup]

theorem refusalEvent_congr {st st' : Status} (hq : st'.queue = st.queue) (hd : st'.dropped = st.dropped)
    (r : WriteReason) (a : Addr) : (refusalEvent st' r a).queue = (refusalEvent st r a).queue ∧
      (refusalEvent st' r a).dropped = (refusalEvent st r a).dropped := by
  unfold refusalEvent
  split <;> exact takeRaise_congr hq hd _ _ _

/-- The write and the warning are reported in either order (R152). -/
theorem writeEnded_reportWarning {s : State} {c : HostCycle} (hc : s.host.cycle = some c) (hw : c.isWrite = true)
    (he : s.EndsWrite c) : WriteEnded s (reportWarning s) c ∧
      (((reportWarning s).status.queue =
            (refusalEvent (takeRaise s.status .powerWarning .none none) .power c.addr).queue ∧
          (reportWarning s).status.dropped =
            (refusalEvent (takeRaise s.status .powerWarning .none none) .power c.addr).dropped) ∨
        ((reportWarning s).status.queue =
            (takeRaise (refusalEvent s.status .power c.addr) .powerWarning .none none).queue ∧
          (reportWarning s).status.dropped =
            (takeRaise (refusalEvent s.status .power c.addr) .powerWarning .none none).dropped)) := by
  have hcause : c.cause = some .memory ∨ c.cause = some .abort ∨ c.cause = some .append :=
    he.2.imp_right (Or.imp_right And.left)
  obtain ⟨n, hr | ⟨-, hr⟩⟩ := reportWarning_cases s
  · have hends : (raiseWarning (s.setFree n)).EndsWrite c := by simpa [State.EndsWrite, State.inFlightFor, raiseWarning] using he
    have hc' : (raiseWarning (s.setFree n)).host.cycle = some c := by simpa using hc
    rw [hr, hostOnWarning_of_ends hc' hw hends]
    refine ⟨?_, .inl ?_⟩
    · exact (WriteEnded.of_raised (s := s.setFree n) (writeEnded_refuseWrite hc' hcause)).of_setFree
    · obtain ⟨hq, hd, -⟩ := refuseWrite_status (u := (raiseWarning (s.setFree n)).withdrawn c) (by simpa using hc) .power
      obtain ⟨hq', hd'⟩ := refusalEvent_congr (st := takeRaise s.status .powerWarning .none none)
        (st' := (raiseWarning (s.setFree n)).status) (by simp [raiseWarning]) (by simp [raiseWarning]) .power c.addr
      rw [withdrawn_status] at hq hd
      exact ⟨hq.trans hq', hd.trans hd'⟩
  · have hc' : (s.setFree n).host.cycle = some c := hc
    rw [hr, hostOnWarning_of_ends hc' hw he]
    refine ⟨(WriteEnded.raised (writeEnded_refuseWrite hc' hcause)).of_setFree, .inr ?_⟩
    obtain ⟨hq, hd, -⟩ := refuseWrite_status (u := (s.setFree n).withdrawn c) (by simpa using hc) .power
    rw [withdrawn_status] at hq hd
    obtain ⟨hq', hd'⟩ := takeRaise_congr hq hd .powerWarning .none none
    exact ⟨by rw [raiseWarning, raiseEvent_queue]; exact hq', by rw [raiseWarning, raiseEvent_dropped]; exact hd'⟩

@[simp] theorem engineOnWarning_claimHost (s : State) : (engineOnWarning s).port.claimHost = s.port.claimHost := by
  unfold engineOnWarning
  split <;> rfl

/-- Before any close of a step, the report of the warning where it ends no write outside STARTUP. -/
theorem reportWarning_noEnd {s : State} (h : warningEndsWrite s = false) :
    reportWarning s = hostOnWarning (raiseWarning s) := by
  simp [reportWarning, h]

end Sys2Proof.Machine

namespace Sys2Proof

open Machine

/-- Settles O8: a suspended run resumes with its claim, and an update is asked for. -/
theorem warningNegationResumes : Obligations.WarningNegationResumes := by
  intro s hreset hw
  refine ⟨settle (warningNegates s), by simp [exec, execPowerWarningNegate, unlessResetting, hreset, hw], ?_⟩
  generalize hv : engineResumes (s.setWarning false) = v
  have hu : warningNegates s = updateForNegation v := by rw [← hv]; rfl
  have hstatus : v.status = s.status := by simp [← hv]
  have hcontrol : v.control = s.control := by simp [← hv]
  have hcommand : v.command = s.command := by simp [← hv]
  have htxn : v.txn = s.txn := by simp [← hv]
  have hresumes : s.engine.run = .suspended → v.engine = { s.engine with run := .running } ∧ v.port.claimEngine = true :=
    fun hrun => by simp [← hv, engineResumes, hrun, engineGoesOn, State.claimEngine]
  have hport : v.port.inFlight = s.port.inFlight ∧ v.port.claimControl = s.port.claimControl := by
    rw [← hv]
    unfold engineResumes engineGoesOn
    (repeat' split) <;> exact ⟨rfl, rfl⟩
  rw [hu]
  refine ⟨by simp [← hv], fun hrun hcursor => ?_, fun hrun => ?_, by simp [htxn], by simp [← hv], by simp [← hv],
    by simp [← hv], by simp [← hv], by simp [hstatus], by simp [hstatus], by simp [hstatus],
    fun a => by simp [← hv], ?_⟩
  · obtain ⟨hengine, hclaim⟩ := hresumes hrun
    refine ⟨by simpa using hengine, ?_⟩
    have := arbitrate_engine_claim (updateForNegation v) (by simpa using hclaim) (by simpa [hengine] using hcursor)
    simpa [State.inFlightFor] using this
  · simp [← hv, engineResumes, hrun]
  · have hasked := (updateAsked_updateForNegation v (s.port.inFlight.isSome = true ∨ s.port.claimControl = false)).of_eq
      hstatus hcontrol hcommand
    rw [htxn, hcontrol, hstatus] at hasked
    refine hasked.settle fun hsettled => settle_owed ?_
    rcases hsettled with hf | hc
    · exact .inl (by simpa [hport.1] using hf)
    · rcases updateForNegation_claim v with hclaim | hdone
      · exact .inr (.inl (hclaim.trans (hport.2.trans hc)))
      · exact .inr (.inr hdone)

/-- Settles O6: the reports change no work, and a run is suspended between its memory cycles. -/
theorem warningAssertionKeepsTheWork : Obligations.WarningAssertionKeepsTheWork := by
  intro s hr hw
  refine ⟨_, exec_powerWarningAssert hr hw, ?_⟩
  have hx := warningReported (s.setWarning true)
  have hquiet : (∀ c, s.host.cycle = some c → c.isWrite = true → c.cause ≠ some .memory ∧ c.cause ≠ some .abort ∧
      (c.cause = some .append → s.inFlightFor .host = true)) →
      (reportWarning (s.setWarning true)).status = (raiseWarning (s.setWarning true)).status ∧
      (reportWarning (s.setWarning true)).txn = s.txn := fun h => by
    rcases reportWarning_quiet (s := s.setWarning true) h with he | ⟨a, he⟩ <;> rw [he] <;> simp
  generalize reportWarning (s.setWarning true) = x at hx hquiet
  have hflight : x.inFlightFor .engine = s.inFlightFor .engine := by simp [State.inFlightFor, hx.inFlight]
  refine ⟨by simp [hx.warning], by simp [hx.op], by simp [hx.stage], by simpa using hx.frames, by simp [hx.n],
    by simp [hx.capacity], by simp [hx.epoch], by simp [hx.slot], by simp [hx.geometry], by simp [hx.link],
    by simp [hx.tracker], by simp [hx.loaded], by simp [hx.decoder], by constructor <;> simp [hx.command],
    fun a => by simp [hx.mem], fun hrun hi => ?_, fun hor => ?_, fun h => ?_⟩
  · rw [engineOnWarning_suspends (by rw [hx.engine]; exact hrun) (by rw [hflight, hi])]
    exact ⟨by simp [hx.engine], settle_engine_idle rfl⟩
  · rw [engineOnWarning_keeps (by rw [hx.engine, hflight]; exact hor)]
    simp [hx.engine]
  · obtain ⟨hstatus, htxn⟩ := hquiet h
    exact ⟨by simp [hstatus, raiseWarning], by simp [hstatus, raiseWarning], by simp [htxn],
      by constructor <;> simp [hstatus, raiseWarning]⟩

/-- Settles O7: by where the write stands, and for one that ends by the order of the two reports. -/
theorem warningAndTheHostWrite : Obligations.WarningAndTheHostWrite := by
  intro s c hr hw hc hwrite warned G
  refine ⟨_, exec_powerWarningAssert hr hw, fun hst hcause => ?_, fun a hcause ha hi => ?_, fun hcause => ?_,
    fun hst hcause => ?_⟩
  · obtain ⟨hended, hqueue⟩ := writeEnded_reportWarning (s := s.setWarning true) hc hwrite ⟨hst, hcause⟩
    obtain ⟨h1, h2, h3, hstaged, h6, h7, h8, h9, h10, h11⟩ := hended
    generalize reportWarning (s.setWarning true) = x at *
    have hhost : (settle (engineOnWarning x)).host = x.host := by
      rw [settle_host_of_none _ (by simpa using h1), engineOnWarning_host]
    refine ⟨by rw [hhost, h1], by rw [State.hwait, hhost, h2]; rfl, by rw [State.hfault, hhost, h3],
      ⟨by simpa using hstaged.1, ?_⟩, by simpa using h6, fun hne => settle_claimHost_of_false (by simpa using h7 hne),
      by simpa using h8, by simpa using h9, by simpa using h10, ?_, by simpa using hqueue⟩
    · exact (hstaged.of_eq (t := settle (engineOnWarning x)) (by simp) (by simp)).2
    · rw [settle_txn, engineOnWarning_txn]
      exact h11
  · have hx : reportWarning (s.setWarning true) = abandonOn (raiseWarning (s.setWarning true)) a .power := by
      rw [reportWarning_noEnd, hostOnWarning_of_append (c := c) (by simpa using hc) hwrite hcause (by simpa using ha)]
      exact Bool.eq_false_iff.mpr fun he => by
        obtain ⟨-, hx⟩ := (warningEndsWrite_iff (s := s.setWarning true) hc hwrite).mp he
        simp [hcause, show (s.setWarning true).inFlightFor .host = true from hi] at hx
    obtain ⟨hgranted, hlater, -⟩ := abandonOn_eq (raiseWarning (s.setWarning true)) a .power
    have hstays : ∀ u : State, u.host = s.host → (settle (engineOnWarning u)).host.cycle = some c := fun u hu => by
      rw [settle, startTimer_cycle, arbitrate_host_cycle _ c (by simpa [hu] using hc) (by simp [hcause])]
      simpa [hu] using hc
    rw [hx]
    by_cases hp : a.progress = G + (G + 10)
    · rw [hgranted ((inFlightFor_raiseWarning _ _).trans hi) (by simpa [State.geometry, G] using hp), if_pos hp]
      exact ⟨hstays _ (by simp), by simp, by constructor <;> simp [raiseWarning], by simp [raiseWarning, warned],
        by simp [raiseWarning, warned], by simp⟩
    · rw [hlater ((inFlightFor_raiseWarning _ _).trans hi) (by simpa [State.geometry, G] using hp), if_neg hp]
      exact ⟨hstays _ (by simp), by simp, by constructor <;> simp [raiseWarning], by simp [raiseWarning, warned],
        by simp [raiseWarning, warned], by simp [markAbandon]⟩
  · have hx : reportWarning (s.setWarning true) = raiseWarning (s.setWarning true) := by
      rw [reportWarning_noEnd, hostOnWarning_of_idle (c := c) (by simpa using hc) hcause]
      exact Bool.eq_false_iff.mpr fun he => by
        obtain ⟨-, hx⟩ := (warningEndsWrite_iff (s := s.setWarning true) hc hwrite).mp he
        rcases hcause with hn | hn <;> simp [hn] at hx
    have hne : c.cause ≠ some .memory := by rcases hcause with hn | hn <;> simp [hn]
    rw [hx]
    refine ⟨?_, by simp, by simp, by constructor <;> simp [raiseWarning], by simp [raiseWarning, warned],
      by simp [raiseWarning, warned]⟩
    rw [settle, startTimer_cycle, arbitrate_host_cycle _ c (by simpa using hc) hne]
    simp
  · have hx : reportWarning (s.setWarning true) = faultInStartup (raiseWarning (s.setWarning true)).withdrawHost := by
      rw [reportWarning_noEnd, hostOnWarning_of_startup (c := c) (by simpa using hc) hwrite hcause (by simpa using hst)]
      exact Bool.eq_false_iff.mpr fun he => by
        obtain ⟨hn, -⟩ := (warningEndsWrite_iff (s := s.setWarning true) hc hwrite).mp he
        simp [hst] at hn
    generalize hv : (raiseWarning (s.setWarning true)).withdrawHost = v at hx
    have hsome : v.host.cycle.isSome = true := by simp [← hv, State.withdrawHost, hc]
    have hcount : v.sequences.count (.configRead .staged) = s.sequences.count (.configRead .staged) := by
      rw [← hv]
      exact count_raiseEvent (s.setWarning true) .powerWarning .none none .staged
    obtain ⟨h1, h2, h3⟩ := faultInStartup_host hsome
    have hstaged : StagedReadReleased s (faultInStartup v) :=
      stagedReadReleased_endWithFault (u := v.setStatus _) hsome (by simp [← hv, State.withdrawHost, raiseWarning]) hcount
    have hhost : (settle (engineOnWarning (faultInStartup v))).host = (faultInStartup v).host := by
      rw [settle_host_of_none _ (by simpa using h1), engineOnWarning_host]
    have hfaults : v.status.startFaults = s.status.startFaults := by simp [← hv, State.withdrawHost, raiseWarning]
    rw [hx]
    exact ⟨by rw [hhost, h1], by rw [State.hwait, hhost, h2]; rfl, by rw [State.hfault, hhost, h3], settle_claimHost_of_false (by simp [← hv, State.withdrawHost]),
      ⟨by simpa using hstaged.1, (hstaged.of_eq (t := settle (engineOnWarning _)) (by simp) (by simp)).2⟩,
      by rw [settle_status_startFaults, engineOnWarning_status, faultInStartup_startFaults, hfaults],
      by simp [← hv, State.withdrawHost, raiseWarning],
      by simp [← hv, State.withdrawHost, raiseWarning], by simp [← hv, State.withdrawHost],
      by simp [← hv, State.withdrawHost], by simp [← hv, State.withdrawHost, raiseWarning, warned],
      by simp [← hv, State.withdrawHost, raiseWarning, warned]⟩

end Sys2Proof
end

section
/-! SUPPORT. The end of a memory cycle of the control unit (R112): what its close leaves, the last cycle of a
sequence, the header slots read (R12, R15, R174) and a configuration slot written (R165, R166). -/

namespace Sys2Proof.Machine

variable {s t u : State} {m : MemCycle} {k : Sequence}

/-! ### What the work of the control unit and of the engine keeps -/

/-- What a piece of work leaves as it was; with no host cycle in progress the host port too. -/
structure WorkKept (s t : State) : Prop where
  mem      : t.mem = s.mem
  host     : s.host.cycle = none → t.host = s.host
  counters : SameCounters s t
  append   : t.journal.append = s.journal.append
  seq      : t.command.seq = s.command.seq
  strobe   : t.command.strobe = s.command.strobe
  warning  : t.warning = s.warning
  pending  : t.pending = s.pending
  strap    : t.port.strap = s.port.strap

theorem WorkKept.trans (h : WorkKept s u) (h' : WorkKept u t) : WorkKept s t := by
  obtain ⟨c1, c2, c3⟩ := h.counters
  obtain ⟨d1, d2, d3⟩ := h'.counters
  exact ⟨h'.mem.trans h.mem, fun hc => (h'.host (by rw [h.host hc, hc])).trans (h.host hc),
    ⟨d1.trans c1, d2.trans c2, d3.trans c3⟩, h'.append.trans h.append, h'.seq.trans h.seq,
    h'.strobe.trans h.strobe, h'.warning.trans h.warning, h'.pending.trans h.pending, h'.strap.trans h.strap⟩

theorem workKept_settle (s : State) : WorkKept s (settle s) :=
  ⟨by simp, settle_host_of_none s, by constructor <;> simp, by simp, by simp, by simp, by simp, by simp, by simp⟩

theorem workKept_requestSequence (s : State) (k : Sequence) : WorkKept s (requestSequence s k) :=
  ⟨by simp, fun _ => by simp, by constructor <;> simp, by simp, by simp, by simp, by simp, by simp, by simp⟩

theorem workKept_raiseEvent (s : State) (e : EventKind) (d : EventDetail) (a : Option Nat) :
    WorkKept s (raiseEvent s e d a) :=
  ⟨by simp, fun _ => by simp, by constructor <;> simp, by simp, by simp, by simp, by simp, by simp, by simp⟩

theorem workKept_endExecution (s : State) (r : Result) (d : ResultDetail) : WorkKept s (endExecution s r d) :=
  ⟨by simp, fun _ => by simp, by constructor <;> simp, by simp, by simp, by simp, by simp, by simp, by simp⟩

theorem workKept_requestAdvance (s : State) : WorkKept s (requestAdvance s) := by
  obtain ⟨k, hk, -⟩ := requestAdvance_eq s
  exact hk ▸ workKept_requestSequence s k

/-- The work after a cycle has landed leaves what the end of that cycle leaves. -/
theorem WorkKept.workFrame (h : WorkKept (landCycle s m) t) (hmem : MemoryLaw s) : WorkFrame s t m := by
  obtain ⟨c1, c2, c3⟩ := h.counters
  exact ⟨memoryAfter_of_mem_eq s t m hmem h.mem, by simpa using h.host, ⟨by simpa using c1, by simpa using c2,
    by simpa using c3⟩, by simpa using h.append, by simpa using h.seq, by simpa using h.strobe,
    by simpa using h.warning, by simpa using h.pending, by simpa using h.strap⟩

/-- A state is left as it was but for the sequences `l` asked for, and for what the close of a step does: of the
configuration unit only the buffer progress may change, and that only for a slot's read or write. -/
structure Leaves (s t : State) (l : List Sequence) : Prop where
  kept      : WorkKept s t
  around    : Surroundings s t
  command   : SameCommand s t
  txn       : t.txn = s.txn
  journal   : t.journal = s.journal
  tracker   : t.tracker = s.tracker
  engine    : t.engine = s.engine
  loaded    : t.config.loaded = s.config.loaded
  origin    : t.config.origin = s.config.origin
  adopting  : t.config.adopting = s.config.adopting
  buffer    : t.config.buffer = s.config.buffer
  config    : (∀ x, .configRead x ∉ l ∧ .configWrite x ∉ l) → t.config = s.config
  queue     : t.status.queue = s.status.queue
  dropped   : t.status.dropped = s.status.dropped
  sequences : t.sequences = s.sequences ++ l

theorem Leaves.trans {l l' : List Sequence} (h : Leaves s u l) (h' : Leaves u t l') : Leaves s t (l ++ l') where
  kept      := h.kept.trans h'.kept
  around    := h.around.trans h'.around
  command   := h.command.trans h'.command
  txn       := h'.txn.trans h.txn
  journal   := h'.journal.trans h.journal
  tracker   := h'.tracker.trans h.tracker
  engine    := h'.engine.trans h.engine
  loaded    := h'.loaded.trans h.loaded
  origin    := h'.origin.trans h.origin
  adopting  := h'.adopting.trans h.adopting
  buffer    := h'.buffer.trans h.buffer
  config    := fun hx => (h'.config fun x => by simpa using ⟨fun hm => (hx x).1 (by simp [hm]),
    fun hm => (hx x).2 (by simp [hm])⟩).trans (h.config fun x => by simpa using ⟨fun hm => (hx x).1 (by simp [hm]),
    fun hm => (hx x).2 (by simp [hm])⟩)
  queue     := h'.queue.trans h.queue
  dropped   := h'.dropped.trans h.dropped
  sequences := by rw [h'.sequences, h.sequences, List.append_assoc]

theorem Leaves.refl (s : State) : Leaves s s [] :=
  ⟨⟨rfl, fun _ => rfl, ⟨rfl, rfl, rfl⟩, rfl, rfl, rfl, rfl, rfl, rfl⟩, ⟨rfl, rfl, rfl, rfl, rfl, rfl, rfl⟩,
    ⟨rfl, rfl, rfl, rfl⟩, rfl, rfl, rfl, rfl, rfl, rfl, rfl, rfl, fun _ => rfl, rfl, rfl, by simp⟩

theorem leaves_settle (s : State) : Leaves s (settle s) [] :=
  ⟨workKept_settle s, surroundings_settle s, sameCommand_settle s, by simp, by simp, by simp, by simp, by simp,
    by simp, by simp, by simp, fun _ => by simp, by simp, by simp, by simp⟩

theorem Leaves.settle {l : List Sequence} (h : Leaves s u l) : Leaves s (settle u) l := by
  simpa using h.trans (leaves_settle u)

theorem leaves_requestSequence (s : State) (k : Sequence) : Leaves s (requestSequence s k) [k] :=
  ⟨workKept_requestSequence s k, by constructor <;> simp, by constructor <;> simp, by simp, by simp, by simp, by simp,
    by simp, by simp, by simp, by simp, fun hx => requestSequence_config s k fun x => by simpa [eq_comm] using hx x, by simp, by simp,
    requestSequence_sequences s k⟩

/-! ### The end of a control-unit cycle -/

/-- A row named for the end of a cycle is that end when the cycle is the one in flight. -/
theorem exec_named {c : Instr} {who : Claimant} (hc : CycleNamed c s) (h : CycleDue s who m) :
    exec c s = .next (settle (claimantGoesOn (landCycle s m) who (cycleByte s m))) := by
  have hrow : c ∈ [Instr.appendComplete, .restoreRecordRead, .restoreStepComplete, .voidMarkWritten,
      .headerSlotsRead, .epochAdvanceComplete, .configSlotReadComplete, .configSlotWriteComplete, .scanEnd,
      .startupEnd, .statusUpdateComplete] := by
    obtain ⟨-, m', -, h⟩ := hc
    cases c <;> first | exact h.elim | decide
  rw [(cycleRowsAreTheEndOfTheCycle c s hrow).1 hc, exec_memoryCycleComplete_due h]

/-- The last cycle of a sequence ends the sequence, and what follows it is done. -/
theorem claimantGoesOn_last (hk : s.control.current = some k) (hscan : k ≠ .scan)
    (hlast : sequenceAtLast s k = true) (b : Byte) :
    claimantGoesOn s .control b =
      sequenceEnds (endSequence (sequenceKeeps s k b)) (sequenceKeeps s k b).control.buffer k := by
  cases k <;> simp_all [claimantGoesOn, controlCycleEnds]

/-- A cycle of a sequence that is not its last leaves the sequence in progress. -/
theorem claimantGoesOn_continues (hk : s.control.current = some k) (hscan : k ≠ .scan)
    (hlast : sequenceAtLast s k = false) (b : Byte) :
    claimantGoesOn s .control b = continueSequence (sequenceKeeps s k b) := by
  cases k <;> simp_all [claimantGoesOn, controlCycleEnds]

/-- The state in which the last cycle of a sequence has been kept and the sequence has ended. -/
def State.freed (s : State) (m : MemCycle) (k : Sequence) : State :=
  endSequence (sequenceKeeps (landCycle s m) k (cycleByte s m))

/-- What that sequence had read. -/
def State.lastRead (s : State) (m : MemCycle) (k : Sequence) : List Byte :=
  (sequenceKeeps (landCycle s m) k (cycleByte s m)).control.buffer

section
variable (s : State) (m : MemCycle) (k : Sequence)

@[simp] theorem freed_host : (s.freed m k).host = s.host := by simp [State.freed]
@[simp] theorem freed_decoder : (s.freed m k).decoder = s.decoder := by simp [State.freed]
@[simp] theorem freed_txn : (s.freed m k).txn = s.txn := by simp [State.freed]
@[simp] theorem freed_journal : (s.freed m k).journal = s.journal := by simp [State.freed]
@[simp] theorem freed_tracker : (s.freed m k).tracker = s.tracker := by simp [State.freed]
@[simp] theorem freed_engine : (s.freed m k).engine = s.engine := by simp [State.freed]
@[simp] theorem freed_command : (s.freed m k).command = s.command := by simp [State.freed]
@[simp] theorem freed_warning : (s.freed m k).warning = s.warning := by simp [State.freed]
@[simp] theorem freed_port : (s.freed m k).port = (landCycle s m).port := by simp [State.freed]

@[simp] theorem freed_current : (s.freed m k).control.current = none := rfl

@[simp] theorem freed_waiting : (s.freed m k).control.waiting = s.control.waiting := by
  obtain ⟨-, -, -, -, -, -, -, hwaiting, -⟩ := sequenceKeeps_items (landCycle s m) k (cycleByte s m)
  simpa [State.freed, endSequence] using hwaiting

@[simp] theorem freed_sequences : (s.freed m k).sequences = s.control.waiting := by simp [State.sequences]

theorem freed_status (h : ∀ kind, k ≠ .update kind) : (s.freed m k).status = s.status := by
  cases k with
  | update kind => exact absurd rfl (h kind)
  | _ => simp [State.freed, sequenceKeeps, configKeeps, configWrote]

theorem freed_config (h : ∀ x, k ≠ .configRead x ∧ k ≠ .configWrite x) : (s.freed m k).config = s.config := by
  cases k with
  | configRead x => exact absurd rfl (h x).1
  | configWrite x => exact absurd rfl (h x).2
  | _ => simp [State.freed, sequenceKeeps, updateCycleEffects]

theorem workKept_freed : WorkKept (landCycle s m) (s.freed m k) := by
  have hreports : (s.freed m k).reports = s.reports := by
    unfold State.freed
    simp
  have hrefused : (s.freed m k).status.refused = s.status.refused := congrArg Reports.refused hreports
  have hexpired : (s.freed m k).status.expired = s.status.expired := congrArg Reports.expired hreports
  have hfaults : (s.freed m k).status.startFaults = s.status.startFaults := congrArg Reports.startFaults hreports
  exact ⟨by simp [State.freed], fun _ => by simp, ⟨by simpa using hrefused, by simpa using hexpired,
    by simpa using hfaults⟩, by simp, by simp, by simp, by simp, by simp [State.freed], by simp⟩

theorem sameCommand_freed : SameCommand s (s.freed m k) := by constructor <;> simp

theorem surroundings_freed : Surroundings s (s.freed m k) := by
  have hloaded : (sequenceKeeps (landCycle s m) k (cycleByte s m)).config.loaded = s.config.loaded := by
    cases k <;> simp [sequenceKeeps, configKeeps, configWrote, updateCycleEffects]
  constructor <;> simp [State.freed, hloaded]

end

/-- The row of the last cycle of a sequence. -/
theorem exec_lastOfSequence {c : Instr} (hc : CycleNamed c s) (h : SequenceDue s k m) (hscan : k ≠ .scan)
    (hlast : sequenceAtLast s k = true) :
    exec c s = .next (settle (sequenceEnds (s.freed m k) (s.lastRead m k) k)) := by
  rw [exec_named hc h.cycle,
    claimantGoesOn_last (by simpa using h.current) hscan (by rwa [sequenceAtLast_landCycle])]
  rfl

/-- A cycle that reads hands over the byte at its address. -/
theorem cycleByte_of_read (h : m.isWrite = false) : cycleByte s m = s.mem.read m.addr.toNat := by
  simp [cycleByte_eq, h]

/-! ### What an epoch advance asks for (R13 to R15, R166) -/

/-- An epoch advance outside start-up asks for the header that follows the current one, or for the read of both
slots, with the geometry of the configuration that gives it. -/
theorem leaves_requestAdvance (hop : s.txn.op.isStartup = false) {c : Configuration}
    (hg : advanceGeometry s = configGeometry c) :
    Leaves s (requestAdvance s) [advanceFrom s.journal.slot s.journal.epoch c] := by
  unfold requestAdvance
  split
  case h_1 slot hslot =>
    rw [hslot, hg]
    exact leaves_requestSequence s _
  case h_2 hslot =>
    rw [if_neg (by simp [hop]), hslot]
    exact leaves_requestSequence s _

/-! ### The entry to CLOSING and its end (R178, R179) -/

/-- A piece of work that begins no slot's read or write keeps the configuration unit and the lines too. -/
structure Keeps (s t : State) : Prop where
  kept    : WorkKept s t
  around  : Surroundings s t
  command : SameCommand s t
  config  : t.config = s.config

theorem Keeps.trans (h : Keeps s u) (h' : Keeps u t) : Keeps s t :=
  ⟨h.kept.trans h'.kept, h.around.trans h'.around, h.command.trans h'.command, h'.config.trans h.config⟩

theorem Leaves.keeps {l : List Sequence} (h : Leaves s t l) (hl : ∀ x, .configRead x ∉ l ∧ .configWrite x ∉ l) :
    Keeps s t := ⟨h.kept, h.around, h.command, h.config hl⟩

theorem keeps_settle (s : State) : Keeps s (settle s) := (leaves_settle s).keeps (by simp)

theorem keeps_requestSequence (s : State) {k : Sequence} (h : ∀ x, k ≠ .configRead x ∧ k ≠ .configWrite x) :
    Keeps s (requestSequence s k) :=
  (leaves_requestSequence s k).keeps fun x => by simpa [eq_comm] using h x

theorem keeps_requestAdvance (s : State) : Keeps s (requestAdvance s) := by
  obtain ⟨k, hk, rfl | ⟨x, e, g, rfl⟩⟩ := requestAdvance_eq s <;> exact hk ▸ keeps_requestSequence s (by simp)

theorem keeps_setTxn (s : State) (x : Controller) : Keeps s (s.setTxn x) :=
  ⟨⟨rfl, fun _ => rfl, ⟨rfl, rfl, rfl⟩, rfl, rfl, rfl, rfl, rfl, rfl⟩, ⟨rfl, rfl, rfl, rfl, rfl, rfl, rfl⟩,
    ⟨rfl, rfl, rfl, rfl⟩, rfl⟩

theorem keeps_setEngine (s : State) (x : Engine) : Keeps s (s.setEngine x) :=
  ⟨⟨rfl, fun _ => rfl, ⟨rfl, rfl, rfl⟩, rfl, rfl, rfl, rfl, rfl, rfl⟩, ⟨rfl, rfl, rfl, rfl, rfl, rfl, rfl⟩,
    ⟨rfl, rfl, rfl, rfl⟩, rfl⟩

theorem keeps_setJournal (s : State) {x : Journal} (h : x.append = s.journal.append) : Keeps s (s.setJournal x) :=
  ⟨⟨rfl, fun _ => rfl, ⟨rfl, rfl, rfl⟩, h, rfl, rfl, rfl, rfl, rfl⟩, ⟨rfl, rfl, rfl, rfl, rfl, rfl, rfl⟩,
    ⟨rfl, rfl, rfl, rfl⟩, rfl⟩

theorem keeps_raiseEvent (s : State) (e : EventKind) (d : EventDetail) (a : Option Nat) :
    Keeps s (raiseEvent s e d a) := by
  refine ⟨workKept_raiseEvent s e d a, by constructor <;> simp, by constructor <;> simp, ?_⟩
  unfold raiseEvent updateForRaise requestRaiseUpdate
  (repeat' split) <;> simp

theorem keeps_closingEnds (s : State) : Keeps s (closingEnds s) :=
  (keeps_raiseEvent s _ _ _).trans ((keeps_setTxn _ _).trans (keeps_requestSequence _ (by simp)))

theorem keeps_enterClosing (s : State) : Keeps s (enterClosing s) := by
  refine ((keeps_setTxn s { s.txn with op := .startup .closing }).trans
    (keeps_requestSequence (s.setTxn { s.txn with op := .startup .closing }) (k := .update .progress)
      (by simp))).trans ?_
  unfold enterClosing
  simp only
  split
  · exact (keeps_setTxn _ _).trans (keeps_requestAdvance _)
  · exact keeps_closingEnds _

theorem requestSequence_setTxn (s : State) (x : Controller) (k : Sequence) :
    requestSequence (s.setTxn x) k = (requestSequence s k).setTxn x := by
  by_cases hidle : s.control.current = none ∧ s.control.waiting = []
  · rw [requestSequence_idle s k hidle.1 hidle.2, requestSequence_idle (s.setTxn x) k hidle.1 hidle.2]
    cases k <;> rfl
  · rw [not_and_or, ← ne_eq, ← Option.isSome_iff_ne_none] at hidle
    rw [requestSequence_busy s k hidle, requestSequence_busy (s.setTxn x) k hidle]
    rfl

/-- With a new header needed CLOSING asks for its update, and for the header that follows the current one or, with
none, of epoch 1 for slot A (R15, R178). -/
theorem leaves_enterClosing_header (hn : headerNeeded s = true) {g : Geometry} (hg : advanceGeometry s = g) :
    Leaves (s.setTxn { s.txn with op := .startup .closing, headerWritten := true }) (enterClosing s)
      [.update .progress, headerAfter (s.journal.slot.map fun x => (x, s.journal.epoch)) g] := by
  have hw : enterClosing s = requestAdvance (requestSequence
      (s.setTxn { s.txn with op := .startup .closing, headerWritten := true }) (.update .progress)) := by
    unfold enterClosing
    simp only [requestSequence_setTxn]
    refine if_pos ?_
    simpa [headerNeeded] using hn
  rw [hw]
  refine (leaves_requestSequence _ _).trans ?_
  subst hg
  generalize hv : requestSequence (s.setTxn { s.txn with op := .startup .closing, headerWritten := true })
    (.update .progress) = v
  have hgeometry : advanceGeometry v = advanceGeometry s := by simp [← hv, advanceGeometry, State.geometry]
  have hjournal : v.journal = s.journal := by simp [← hv]
  have hop : v.txn.op = .startup .closing := by simp [← hv]
  unfold requestAdvance
  rw [hjournal, hgeometry, hop]
  cases s.journal.slot <;> exact leaves_requestSequence v _

end Sys2Proof.Machine

namespace Sys2Proof

open Machine

/-- Settles O42: the slot written decides what follows. -/
theorem configSlotIsWritten : Obligations.ConfigSlotIsWritten := by
  intro s m slot h hlast hop hadopting
  have hnamed : CycleNamed .configSlotWriteComplete s :=
    ⟨h.cycle.noReset, m, h.cycle.inFlight, h.cycle.claimant, ⟨slot, h.current⟩, hlast⟩
  refine ⟨settle (configSlotWritten (s.freed m (.configWrite slot)) slot),
    exec_lastOfSequence hnamed h (by simp) (by simp [sequenceAtLast, hlast]), ?_⟩
  have hkept := workKept_freed s m (.configWrite slot)
  have hcommand := sameCommand_freed s m (.configWrite slot)
  have haround := surroundings_freed s m (.configWrite slot)
  have hstatus := freed_status s m (.configWrite slot) (by simp)
  have hconfig : (s.freed m (.configWrite slot)).config = { s.config with progress := s.config.progress + 1 } := by
    simp [State.freed, sequenceKeeps, configWrote]
  obtain ⟨l, hleaves, hsecondary, hprimary⟩ : ∃ l, Leaves (s.freed m (.configWrite slot))
      (settle (configSlotWritten (s.freed m (.configWrite slot)) slot)) l ∧
      (slot = .secondary → l = [.configWrite .primary]) ∧
      (slot = .primary → l = [advanceFrom s.journal.slot s.journal.epoch (readConfig s.config.buffer)]) := by
    cases slot with
    | staged => exact ⟨_, leaves_settle _, nofun, nofun⟩
    | secondary => exact ⟨_, (leaves_requestSequence _ _).settle, fun _ => rfl, nofun⟩
    | primary =>
      refine ⟨_, (leaves_requestAdvance (c := readConfig s.config.buffer) ?_ ?_).settle, nofun, fun _ => ?_⟩
      · rw [freed_txn, hop]; rfl
      · simp [advanceGeometry, hconfig, hadopting]
      · simp
  have hsequences := hleaves.sequences
  rw [freed_sequences] at hsequences
  exact ⟨(hkept.trans hleaves.kept).workFrame h.cycle.canon, hleaves.txn.trans (by simp),
    hleaves.journal.trans (by simp), hleaves.tracker.trans (by simp), hleaves.engine.trans (by simp),
    hleaves.buffer.trans (by rw [hconfig]), hleaves.adopting.trans (by rw [hconfig, hadopting]),
    hleaves.origin.trans (by rw [hconfig]), hleaves.queue.trans (by rw [hstatus]), hcommand.trans hleaves.command,
    haround.trans hleaves.around, fun hs => hsecondary hs ▸ hsequences, fun hp => hprimary hp ▸ hsequences⟩

/-- Settles O38: the choice decides what follows. -/
theorem headerSlotsAreRead : Obligations.HeaderSlotsAreRead := by
  intro s m c h hlast hread hc l choice g
  have hnamed : CycleNamed .headerSlotsRead s :=
    ⟨h.cycle.noReset, m, h.cycle.inFlight, h.cycle.claimant, h.current, hlast⟩
  refine ⟨settle (headerSlotsRead (s.freed m .headerRead) (s.lastRead m .headerRead)),
    exec_lastOfSequence hnamed h (by simp) (by simp [sequenceAtLast, hlast]), ?_⟩
  have hl : s.lastRead m .headerRead = l := by
    simp [State.lastRead, sequenceKeeps, headerReadBytes, cycleByte_of_read hread, l]
  have hconfig : (s.freed m .headerRead).config = s.config := freed_config s m .headerRead (by simp)
  have hstatus := freed_status s m .headerRead (by simp)
  have hkept := workKept_freed s m .headerRead
  have hcommand := sameCommand_freed s m .headerRead
  have haround := surroundings_freed s m .headerRead
  have hsequences := freed_sequences s m .headerRead
  have htxn := freed_txn s m .headerRead
  have hjournal := freed_journal s m .headerRead
  have hengine := freed_engine s m .headerRead
  have htracker := freed_tracker s m .headerRead
  have hg : advanceGeometry (s.freed m .headerRead) = g := by
    rw [advanceGeometry, hconfig]
    rcases hc with ⟨ha, hk⟩ | ⟨ha, hk⟩
    · simp [ha, hk, configGeometry, g]
    · simp [ha, hk, configGeometry, g]
  have hchoice : chooseSlots (s.freed m .headerRead) l = choice := by simp [chooseSlots, choice]
  rw [hl]
  generalize s.freed m .headerRead = v at *
  have hkeeps : Keeps v (settle (headerSlotsRead v l)) := by
    refine Keeps.trans ?_ (keeps_settle _)
    unfold headerSlotsRead
    simp only
    split
    · split
      · exact keeps_enterClosing v
      · refine (keeps_setJournal v ?_).trans (keeps_requestSequence _ ?_)
        · rfl
        · simp
    · refine keeps_requestSequence v ?_
      unfold headerAfter
      split <;> simp
  refine ⟨(hkept.trans hkeeps.kept).workFrame h.cycle.canon, by simp [htracker], by simp [hengine],
    hkeeps.config.trans hconfig, hcommand.trans hkeeps.command, haround.trans hkeeps.around,
    fun x hd hop hx => ?_, fun hop hx hslot => ?_, fun hop => ?_⟩
  · have hgo : headerSlotsRead v l = loadHeader v x hd := by
      simp [headerSlotsRead, htxn, hop, OpState.isStartup, hchoice, hx]
    have hleaves := (leaves_requestSequence (v.setJournal { v.journal with
      slot := some x, epoch := hd.epoch, geometry := some hd.geometry, capacity := capacityOf hd.geometry, n := 0,
      link := epochLow hd.epoch }) .scan).settle
    rw [hgo]
    refine ⟨hleaves.journal.trans ?_, hleaves.txn.trans htxn, hleaves.sequences.trans ?_, hleaves.queue.trans ?_⟩
    · rw [hjournal]; rfl
    · simp [hsequences]
    · simp [hstatus]
  · have hgo : headerSlotsRead v l = enterClosing v := by
      simp [headerSlotsRead, htxn, hop, OpState.isStartup, hchoice, hx]
    have hleaves := (leaves_enterClosing_header (s := v) (by simp [headerNeeded, hjournal, hslot]) hg).settle
    rw [hjournal, hslot] at hleaves
    rw [hgo]
    refine ⟨hleaves.journal.trans hjournal, hleaves.queue.trans ?_, hleaves.txn.trans ?_, hleaves.sequences.trans ?_⟩
    · simp [hstatus]
    · rw [htxn]; rfl
    · simp [hsequences, headerAfter]
  · have hgo : headerSlotsRead v l =
        requestSequence v (headerAfter (choice.map fun c => (c.1, c.2.epoch)) g) := by
      simp [headerSlotsRead, htxn, hop, hchoice, hg]
    have hleaves := (leaves_requestSequence v (headerAfter (choice.map fun c => (c.1, c.2.epoch)) g)).settle
    rw [hgo]
    refine ⟨hleaves.journal.trans hjournal, hleaves.txn.trans htxn, hleaves.queue.trans ?_, hleaves.sequences.trans ?_⟩
    · rw [hstatus]
    · rw [hsequences]
      cases choice <;> rfl

end Sys2Proof
end

section
/-! SUPPORT. The end of the scan (R175, R176, R178): a run begins, or start-up goes to its end. -/

namespace Sys2Proof.Machine

variable {s t u : State} {m : MemCycle}

/-! ### The engine goes on (R91, R102) -/

theorem leaves_claimEngine (s : State) : Leaves s s.claimEngine [] :=
  ⟨⟨rfl, fun _ => rfl, ⟨rfl, rfl, rfl⟩, rfl, rfl, rfl, rfl, rfl, rfl⟩, ⟨rfl, rfl, rfl, rfl, rfl, rfl, rfl⟩,
    ⟨rfl, rfl, rfl, rfl⟩, rfl, rfl, rfl, rfl, rfl, rfl, rfl, rfl, fun _ => rfl, rfl, rfl, by simp [State.claimEngine]⟩

/-- The engine's next cycle is claimed, or the engine is suspended at this boundary (R102). -/
theorem leaves_engineGoesOn (s : State) :
    Leaves (s.setEngine { s.engine with run := if s.warning then .suspended else .running }) (engineGoesOn s) [] := by
  unfold engineGoesOn
  split
  · exact Leaves.refl _
  · exact leaves_claimEngine _

/-- With the power warning negated the claim stands after the close of the step, or is granted. -/
theorem engineGoesOn_claims (hw : s.warning = false) (hc : s.engine.cursor.isSome = true) :
    (settle (engineGoesOn s)).port.claimEngine = true ∨ (settle (engineGoesOn s)).inFlightFor .engine = true := by
  have hgo : engineGoesOn s = (s.setEngine { s.engine with run := .running }).claimEngine := by
    simp [engineGoesOn, hw]
  have := arbitrate_engine_claim (engineGoesOn s) (by rw [hgo]; rfl) (by rw [hgo]; exact hc)
  simpa [State.inFlightFor] using this

/-- The items of the engine as a run begins from position `n - 1` down to `stop` (R91). -/
def Engine.begun (e : Engine) (n stop : Nat) (target : Target) : Engine :=
  { e with stop := stop, target := target, count := 0, reason := none, reads := 0, writes := 0, cursor := some (n - 1) }

theorem startRun_of_lt {n stop : Nat} (h : stop < n) (target : Target) :
    startRun s n stop target = engineGoesOn (s.setEngine (s.engine.begun n stop target)) := by
  unfold startRun
  exact if_neg (by omega)

/-- A run with records to restore begins, after the close of the step. -/
theorem startRun_begins {n stop : Nat} (h : stop < n) (target : Target) :
    (∃ e, Leaves (s.setEngine e) (settle (startRun s n stop target)) []) ∧
      RunBegun s (settle (startRun s n stop target)) n stop target := by
  rw [startRun_of_lt h]
  have hleaves := (leaves_engineGoesOn (s.setEngine (s.engine.begun n stop target))).settle
  exact ⟨⟨_, hleaves⟩, hleaves.engine, fun hw => engineGoesOn_claims hw rfl⟩

/-! ### CLOSING without a new header (R178, R179) -/

/-- In start-up, before the final update, START_COMPLETE asks for no update of its own. -/
theorem leaves_closingEnds (hst : s.txn.op.isStartup = true) (hc : s.control.current ≠ some (.update .final)) :
    Leaves ((s.setStatus (takeRaise s.status .startComplete
        (.start (if s.txn.headerWritten then .restored else .clean)) (some s.txn.found))).setTxn
        { s.txn with endState := some .ready }) (closingEnds s) [.update .final] := by
  unfold closingEnds
  simp only [raiseEvent_of_startup hst hc]
  exact leaves_requestSequence _ _

theorem enterClosing_of_noHeader (hn : headerNeeded s = false) : enterClosing s =
    closingEnds (requestSequence (s.setTxn { s.txn with op := .startup .closing }) (.update .progress)) := by
  unfold enterClosing
  simp only
  refine if_neg ?_
  simpa [headerNeeded, Option.isSome_iff_ne_none] using hn

/-- A request of an update at a control unit with no sequence in progress does not begin another one. -/
theorem requestSequence_current_of_free (h : s.control.current = none) (k : Sequence) :
    (requestSequence s k).control.current = none ∨ (requestSequence s k).control.current = some k := by
  unfold requestSequence
  split
  · exact .inr (beginSequence_spec s k).1
  · exact .inl (by simpa using h)

/-! ### The end of the scan (R175) -/

/-- The state in which the scan has ended with `n` positions accepted. -/
def State.scanned (s : State) (n : Nat) : State :=
  endSequence ((s.setJournal { s.journal with n := n, link := s.control.scanLink }).setTxn { s.txn with found := n })

theorem scanEnds_eq (s : State) (n : Nat) :
    scanEnds s n = if n = 0 then enterClosing (s.scanned n) else enterRestoring (s.scanned n) := rfl

/-- The cycle that ends the scan, with the position and the link it leaves (R175). -/
theorem scanGoesOn_ends {bytes : List Byte} {n : Nat} {link : Half}
    (h : (ScanRejects s bytes ∧ n = s.control.scanPos ∧ link = s.control.scanLink) ∨
      (ScanAccepts s bytes ∧ n = s.control.scanPos + 1 ∧ n = s.journal.capacity ∧
        link = halfAt bytes (s.geometry.granule + 8))) :
    ∃ x : ControlUnit, x.waiting = s.control.waiting ∧ x.scanLink = link ∧
      scanGoesOn s bytes = scanEnds (s.setControl x) n := by
  rcases h with ⟨hr, rfl, rfl⟩ | ⟨ha, hn, hcap, rfl⟩
  · exact ⟨s.control, rfl, rfl, by simp [scanGoesOn, (scanVerdict_reject_iff s bytes).mpr hr]⟩
  · refine ⟨(scanAccepts s bytes).control, rfl, rfl, ?_⟩
    simp only [scanGoesOn, (scanVerdict_accept_iff s bytes).mpr ha]
    exact (if_pos (hn.symm.trans hcap)).trans (congrArg _ hn.symm)

end Sys2Proof.Machine

namespace Sys2Proof

open Machine

/-- Settles O43, by whether a record was found and whether a new header is needed. -/
theorem scanEndsWithTheRecordsFound : Obligations.ScanEndsWithTheRecordsFound := by
  intro s m h hread hop bytes G n link hends
  have hbytes : s.control.buffer ++ [cycleByte s m] = bytes := by simp [cycleByte_of_read hread, bytes]
  have hnamed : CycleNamed .scanEnd s := by
    refine ⟨h.cycle.noReset, m, h.cycle.inFlight, h.cycle.claimant, h.current, ?_⟩
    simp only [hread, Bool.false_eq_true, if_false]
    rcases hends with ⟨hr, -, -⟩ | ⟨ha, hn, hcap, -⟩
    · exact .inl hr
    · exact .inr ⟨ha, hn.symm.trans hcap⟩
  refine ⟨_, exec_named hnamed h.cycle, ?_⟩
  have hgo : claimantGoesOn (landCycle s m) .control (cycleByte s m) = scanGoesOn (landCycle s m) bytes := by
    simp [claimantGoesOn, controlCycleEnds, h.current, hbytes]
  obtain ⟨x, hwaiting, hlink, hscan⟩ := scanGoesOn_ends (s := landCycle s m) (bytes := bytes) (n := n) (link := link)
    (by simpa [ScanRejects, ScanAccepts] using hends)
  rw [hgo, hscan, scanEnds_eq]
  generalize hv : ((landCycle s m).setControl x).scanned n = v
  have hkept : WorkKept (landCycle s m) v := by
    rw [← hv]
    exact ⟨rfl, fun _ => rfl, ⟨rfl, rfl, rfl⟩, rfl, rfl, rfl, rfl, rfl, rfl⟩
  have haround : Surroundings s v := by rw [← hv]; constructor <;> simp [State.scanned]
  have hcommand : SameCommand s v := by rw [← hv]; constructor <;> simp [State.scanned]
  have htxn : v.txn = { s.txn with found := n } := by simp [← hv, State.scanned]
  have hjournal : v.journal = { s.journal with n := n, link := link } := by simp [← hv, State.scanned, hlink]
  have htracker : v.tracker = s.tracker := by simp [← hv, State.scanned]
  have hengine : v.engine = s.engine := by simp [← hv, State.scanned]
  have hconfig : v.config = s.config := by simp [← hv, State.scanned]
  have hstatus : v.status = s.status := by simp [← hv, State.scanned]
  have hcurrent : v.control.current = none := by rw [← hv]; rfl
  have hsequences : v.sequences = s.control.waiting := by
    rw [← hv, State.scanned, endSequence_sequences]
    simpa using hwaiting
  clear hv
  rcases Nat.eq_zero_or_pos n with rfl | hn
  · rw [if_pos rfl]
    have hkeeps : Keeps v (settle (enterClosing v)) := (keeps_enterClosing v).trans (keeps_settle _)
    refine ⟨(hkept.trans hkeeps.kept).workFrame h.cycle.canon, haround.trans hkeeps.around,
      hcommand.trans hkeeps.command, by simp [hjournal], by simp [htracker], fun hlt => absurd hlt (by omega),
      fun _ slot k hslot hk ha => ⟨by simp [hengine], ?_⟩⟩
    have hgeometry : advanceGeometry v = configGeometry k := by simp [advanceGeometry, hconfig, ha, hk]
    have hneeded : headerNeeded v = true ↔
        ¬s.journal.geometry = some (Geometry.mk k.journalBase k.journalLength k.granule k.serial) := by
      simp [headerNeeded, hjournal, hslot, htxn, hconfig, hk, configGeometry]
    split
    case isTrue hg =>
      rw [enterClosing_of_noHeader (by simpa [hg] using hneeded)]
      have hleaves := leaves_requestSequence (v.setTxn { v.txn with op := .startup .closing }) (.update .progress)
      have hfree := requestSequence_current_of_free (s := v.setTxn { v.txn with op := .startup .closing }) hcurrent
        (.update .progress)
      generalize requestSequence (v.setTxn { v.txn with op := .startup .closing }) (.update .progress) = w at *
      have hw : w.txn = { s.txn with op := .startup .closing, found := 0 } := by rw [hleaves.txn, htxn]; rfl
      have hlast := (leaves_closingEnds (s := w) (by rw [hw]; rfl)
        (by rcases hfree with hf | hf <;> simp [hf])).settle
      obtain ⟨hqueue, -⟩ := takeRaise_congr (st := s.status) (st' := w.status)
        (by rw [hleaves.queue]; simp [hstatus]) (by rw [hleaves.dropped]; simp [hstatus]) .startComplete
        (.start (if s.txn.headerWritten then .restored else .clean)) (some 0)
      refine ⟨hlast.txn.trans (by rw [hw]; rfl), hlast.queue.trans ?_, hlast.sequences.trans ?_⟩
      · rw [hw]
        exact hqueue
      · simp [hleaves.sequences, hsequences]
    case isFalse hg =>
      have hleaves := (leaves_enterClosing_header (hneeded.mpr hg) hgeometry).settle
      rw [hjournal] at hleaves
      simp only [hslot] at hleaves
      refine ⟨hleaves.txn.trans (by rw [htxn]; rfl), hleaves.queue.trans (by simp [hstatus]),
        hleaves.sequences.trans ?_⟩
      simp [hsequences, nextHeader, headerAfter, configGeometry]
  · rw [if_neg (by omega)]
    have hleaves := leaves_requestSequence (v.setTxn { v.txn with op := .startup .restoring }) (.update .progress)
    have hrun : enterRestoring v = startRun (requestSequence (v.setTxn { v.txn with op := .startup .restoring })
        (.update .progress)) n 0 .all := by
      simp [enterRestoring, htxn]
    rw [hrun]
    generalize requestSequence (v.setTxn { v.txn with op := .startup .restoring }) (.update .progress) = w at *
    obtain ⟨⟨e, hlast⟩, hengine', hclaim⟩ := startRun_begins (s := w) hn .all
    have hw : w.warning = s.warning := hleaves.kept.warning.trans haround.warning
    refine ⟨(hkept.trans ?_).workFrame h.cycle.canon, haround.trans ?_, hcommand.trans ?_,
      hlast.journal.trans (hleaves.journal.trans hjournal), hlast.tracker.trans (hleaves.tracker.trans htracker),
      fun _ => ⟨hlast.txn.trans (hleaves.txn.trans ?_), ⟨?_, fun hx => hclaim (hw.trans hx)⟩,
        hlast.queue.trans (hleaves.queue.trans ?_), hlast.sequences.trans ?_⟩, fun h0 => absurd h0 (by omega)⟩
    · exact (keeps_setTxn v _).kept.trans (hleaves.kept.trans ((keeps_setEngine w e).kept.trans hlast.kept))
    · exact (keeps_setTxn v _).around.trans (hleaves.around.trans ((keeps_setEngine w e).around.trans hlast.around))
    · exact (keeps_setTxn v _).command.trans (hleaves.command.trans ((keeps_setEngine w e).command.trans hlast.command))
    · rw [htxn]; rfl
    · rw [hengine', hleaves.engine, hw, State.setTxn_engine, hengine]
    · simp [hstatus]
    · simp [hleaves.sequences, hsequences]

end Sys2Proof
end

section
/-! SUPPORT. The configuration record read and judged by the fourteen checks of Table 9-4 (R162, R189), and what
the end of a slot's read brings about (R164, R165, R172, R173). -/

namespace Sys2Proof.Machine

variable {s t u : State} {m : MemCycle}

/-! ### The record's bytes (R189, Tables 11-2 and 11-3) -/

theorem byteAt_windowEntry (rec : List Byte) (i : Nat) {j : Nat} (hj : j < 6) :
    byteAt (windowEntry rec i) j = byteAt rec (0x0C + 6 * i + j) := by
  simp [byteAt, windowEntry, List.getD_eq_getElem?_getD, List.getElem?_drop, hj]

theorem halfAt_windowEntry (rec : List Byte) (i : Nat) {j : Nat} (hj : j + 1 < 6) :
    halfAt (windowEntry rec i) j = halfAt rec (0x0C + 6 * i + j) := by
  rw [halfAt, halfAt, byteAt_windowEntry rec i hj, byteAt_windowEntry rec i (by omega)]
  rfl

theorem byteAt_zeros (n j : Nat) : byteAt (zeros n) j = 0 := by
  simp [byteAt, zeros, List.getD_eq_getElem?_getD, List.getElem?_replicate]
  grind

theorem windowMode?_isSome_iff (b : Byte) : (windowMode? b).isSome = true ↔ b ∈ [1, 2, 3] := by
  unfold windowMode?
  (repeat' split) <;> simp_all

theorem windowMode?_eq_of_mem {b : Byte} {mode : WindowMode}
    (h : (b, mode) ∈ [((1 : Byte), WindowMode.openMode), (2, .framed), (3, .frozen)]) :
    windowMode? b = some mode := by
  simp only [List.mem_cons, Prod.mk.injEq, List.not_mem_nil, or_false] at h
  obtain ⟨rfl, rfl⟩ | ⟨rfl, rfl⟩ | ⟨rfl, rfl⟩ := h <;> rfl

theorem readConfig_windows_length (rec : List Byte) :
    (readConfig rec).windows.length = (byteAt rec 0x0B).toNat := by
  simp [readConfig, usedEntries]

theorem readConfig_window {rec : List Byte} {i : Nat} (hi : i < (byteAt rec 0x0B).toNat) {mode : WindowMode}
    (hmode : windowMode? (byteAt rec (0x10 + 6 * i)) = some mode) :
    (readConfig rec).windows[i]? =
      some (Window.mk (halfAt rec (0x0C + 6 * i)).toNat (halfAt rec (0x0E + 6 * i)).toNat mode) := by
  have hat : byteAt (windowEntry rec i) 4 = byteAt rec (0x10 + 6 * i) := by
    rw [byteAt_windowEntry rec i (by omega)]
    congr 1
    omega
  have hlength : halfAt (windowEntry rec i) 2 = halfAt rec (0x0E + 6 * i) := by
    rw [halfAt_windowEntry rec i (by omega)]
    congr 1
    omega
  simp [readConfig, usedEntries, hi, readWindow, hat, hmode, hlength, halfAt_windowEntry rec i (j := 0)]

theorem decide_and_decide_iff {p q : Prop} [Decidable p] [Decidable q] :
    (decide p && decide q) = true ↔ p ∧ q := by simp

/-! ### The fourteen checks (R162, Table 9-4) -/

/-- The reasons in the order of their checks. -/
def configOrder : List ConfigReason :=
  [.tag, .check, .granule, .clock, .hold, .yield, .journal, .count, .unused, .range, .overlap, .journalOverlap,
    .mode, .pad]

/-- The check of a reason. -/
def configCheck (strap : Nat) (rec : List Byte) (r : ConfigReason) : Bool :=
  ((configChecks strap rec)[configOrder.idxOf r]?.map (·.1)).getD false

theorem configChecks_eq (strap : Nat) (rec : List Byte) :
    configChecks strap rec = configOrder.map fun r => (configCheck strap rec r, r) := rfl

/-- The first element that meets a test, by the places in a list that holds every element once. -/
theorem find?_eq_some_iff_idxOf {α : Type} [DecidableEq α] {l : List α} (hl : l.Nodup) (hall : ∀ a, a ∈ l)
    (p : α → Bool) (a : α) :
    l.find? p = some a ↔ p a = true ∧ ∀ b, l.idxOf b < l.idxOf a → p b = false := by
  rw [List.find?_eq_some_iff_getElem]
  refine and_congr_right fun _ => ⟨?_, fun h => ?_⟩
  · rintro ⟨i, hi, rfl, hbefore⟩ b hb
    rw [hl.idxOf_getElem] at hb
    simpa using hbefore _ hb
  · refine ⟨l.idxOf a, List.idxOf_lt_length_of_mem (hall a), List.getElem_idxOf _, fun j hj => ?_⟩
    have hlt : j < l.length := hj.trans (List.idxOf_lt_length_of_mem (hall a))
    have := h l[j] (by rwa [hl.idxOf_getElem])
    simpa using this

theorem validate_eq (strap : Nat) (rec : List Byte) :
    validate strap rec = configOrder.find? fun r => !configCheck strap rec r := by
  rw [validate, configChecks_eq, List.find?_map]
  simp [Function.comp_def]

/-- The reason of a record is that of the first check that fails. -/
theorem validate_eq_some_iff (strap : Nat) (rec : List Byte) (r : ConfigReason) :
    validate strap rec = some r ↔ ¬configCheck strap rec r = true ∧
      ∀ e, configOrder.idxOf e < configOrder.idxOf r → configCheck strap rec e = true := by
  rw [validate_eq, find?_eq_some_iff_idxOf (by decide) (by intro a; cases a <;> decide)]
  simp

theorem validate_eq_none_iff (strap : Nat) (rec : List Byte) :
    validate strap rec = none ↔ ∀ r, configCheck strap rec r = true := by
  have hall : ∀ r, r ∈ configOrder := by intro r; cases r <;> decide
  rw [validate_eq, List.find?_eq_none]
  simp [hall]

/-- The unused entries are all zero (check 9). -/
theorem unusedEntries_iff {rec : List Byte} (hlen : rec.length = 64) (count : Nat) :
    ((List.range 8).all fun i => decide (i < count) || windowEntry rec i == zeros 6) = true ↔
      ∀ i j, count ≤ i → i < 8 → j < 6 → byteAt rec (0x0C + 6 * i + j) = 0 := by
  have hentry : ∀ i, i < 8 → (windowEntry rec i = zeros 6 ↔ ∀ j, j < 6 → byteAt rec (0x0C + 6 * i + j) = 0) := by
    intro i hi
    have hl : (windowEntry rec i).length = 6 := by simp [windowEntry, hlen]; omega
    constructor
    · intro he j hj
      rw [← byteAt_windowEntry rec i hj, he, byteAt_zeros]
    · intro hb
      refine List.ext_getElem (by rw [hl]; rfl) fun j hj _ => ?_
      have hbyte := hb j (by omega)
      rw [← byteAt_windowEntry rec i (by omega), ← byteAt_zeros 6 j] at hbyte
      rwa [byteAt, byteAt, List.getD_eq_getElem _ _ (by omega), List.getD_eq_getElem] at hbyte
  simp only [List.all_eq_true, List.mem_range, Bool.or_eq_true, decide_eq_true_eq, beq_iff_eq]
  constructor
  · intro h i j hc hi hj
    exact (hentry i hi).mp ((h i hi).resolve_left (by omega)) j hj
  · intro h i hi
    by_cases hc : i < count
    · exact .inl hc
    · exact .inr ((hentry i hi).mpr fun j hj => h i j (by omega) hi hj)

theorem windowsOverlap_eq_false_iff (w v : Window) :
    windowsOverlap w v = false ↔ w.base + w.length ≤ v.base ∨ v.base + v.length ≤ w.base := by
  simp [windowsOverlap]
  omega

/-- No two windows share a granule (check 11). -/
theorem anyOverlap_eq_false_iff (l : List Window) : anyOverlap l = false ↔
    ∀ (i j : Nat) (w v : Window), i < j → l[i]? = some w → l[j]? = some v → windowsOverlap w v = false := by
  induction l with
  | nil => simp [anyOverlap]
  | cons a l ih =>
    simp only [anyOverlap, Bool.or_eq_false_iff, ih, List.any_eq_false]
    constructor
    · rintro ⟨hhead, htail⟩ (_ | i) (_ | j) w v hij hw hv
      · omega
      · obtain rfl : a = w := by simpa using hw
        simpa using hhead v (List.mem_of_getElem? (by simpa using hv))
      · omega
      · exact htail i j w v (by omega) (by simpa using hw) (by simpa using hv)
    · refine fun h => ⟨fun v hv => ?_, fun i j w v hij hw hv => ?_⟩
      · obtain ⟨j, hj⟩ := List.getElem?_of_mem hv
        simpa using h 0 (j + 1) a v (by omega) (by simp) (by simpa using hj)
      · exact h (i + 1) (j + 1) w v (by omega) (by simpa using hw) (by simpa using hv)

theorem journalOverlaps_iff (c : Configuration) (w : Window) : ¬journalOverlaps c w = true ↔
    (w.base + w.length) * c.granule ≤ c.journalBase * 1024 ∨
      (c.journalBase + c.journalLength) * 1024 ≤ w.base * c.granule := by
  rw [journalOverlaps, decide_and_decide_iff, not_and_or, Nat.not_lt, Nat.not_lt, or_comm]

theorem granuleCode_iff (g : Nat) : granuleCode g = true ↔ g = 16 ∨ g = 32 ∨ g = 64 := by
  simp [granuleCode, or_assoc]

theorem usedEntries_all_iff (rec : List Byte) (p : List Byte → Bool) :
    (usedEntries rec).all p = true ↔ ∀ i, i < (byteAt rec 0x0B).toNat → p (windowEntry rec i) = true := by
  simp [usedEntries]

/-! ### What the end of a slot's read brings about -/

/-- Whatever follows the read, the record read stays in the buffer. -/
theorem configSlotRead_common (s : State) (slot : ConfigSlot) :
    WorkKept s (configSlotRead s slot) ∧ (configSlotRead s slot).config.buffer = s.config.buffer := by
  have hitems : SameCounters s (configSlotRead s slot) ∧ (configSlotRead s slot).port.strap = s.port.strap ∧
      (configSlotRead s slot).config.buffer = s.config.buffer := by
    unfold configSlotRead adoptFails loadingEnds noConfigEnds loadConfig
    split <;> exact ⟨by constructor <;> simp, by simp, by simp⟩
  obtain ⟨hcounters, hstrap, hbuffer⟩ := hitems
  exact ⟨⟨by simp, fun _ => by simp, hcounters, by simp, by simp, by simp, by simp, by simp, hstrap⟩, hbuffer⟩

/-- The state in which LOADING ends with a configuration (R156, R172, R174). -/
def State.configured (s : State) (c : Configuration) : State :=
  ((loadConfig s c).setDecoder { map := some (configMap c), control := some s.controlBase }).setTxn
    { s.txn with op := .startup .scanning }

theorem leaves_loadingEnds (s : State) (c : Configuration) :
    Leaves (s.configured c) (loadingEnds s c) [.update .progress, .headerRead] :=
  (leaves_requestSequence (s.configured c) (.update .progress)).trans (leaves_requestSequence _ .headerRead)

/-- In start-up the end without a configuration asks for the final update alone (R144, R173). -/
theorem leaves_noConfigEnds (hst : s.txn.op.isStartup = true) (hc : s.control.current ≠ some (.update .final)) :
    Leaves (((s.setDecoder { s.decoder with control := some s.controlBase }).setTxn
        { s.txn with endState := some .unconfigured }).setStatus
        (takeRaise s.status .startComplete (.start .noConfig) (some 0))) (noConfigEnds s) [.update .final] := by
  unfold noConfigEnds
  simp only
  rw [raiseEvent_of_startup (by exact hst) (by exact hc)]
  exact leaves_requestSequence _ _

theorem outcome_congr (hframes : t.txn.frames = s.txn.frames) (hjournal : t.journal = s.journal) (cmd : Command)
    (q : Half) (r : Result) (d : ResultDetail) : t.outcome cmd q r d = s.outcome cmd q r d := by
  simp [State.outcome, State.depth, hframes, hjournal]

/-- With a command in flight the end of its execution is its outcome, and its update is asked for (R128). -/
theorem leaves_endExecution {cmd : Command} {q : Half} (h : s.command.inFlight = some (cmd, q)) (r : Result)
    (d : ResultDetail) :
    Leaves (s.setTxn { s.txn with stage := s.outcome cmd q r d }) (endExecution s r d) [.update .command] := by
  unfold endExecution
  rw [h]
  exact leaves_requestSequence _ _

end Sys2Proof.Machine

namespace Sys2Proof

open Machine

/-- Settles O41: the fourteen checks one by one, then the branches of the judgement. -/
theorem configSlotIsJudged : Obligations.ConfigSlotIsJudged := by
  refine ⟨?_, ?_⟩
  · intro strap l hlen half k count ending passes order
    have hpasses : ∀ r, configCheck strap l r = true ↔ passes r := by
      intro r
      cases r
      case unused => exact unusedEntries_iff hlen count
      case overlap =>
        refine (iff_of_eq (Bool.not_eq_true' _)).trans ((anyOverlap_eq_false_iff _).trans ?_)
        simp only [windowsOverlap_eq_false_iff]
        exact Iff.rfl
      case mode =>
        refine (usedEntries_all_iff l _).trans (forall₂_congr fun i _ => ?_)
        rw [windowMode?_isSome_iff, byteAt_windowEntry l i (by omega), show 0x0C + 6 * i + 4 = 0x10 + 6 * i by omega]
      case pad =>
        refine (usedEntries_all_iff l _).trans (forall₂_congr fun i _ => ?_)
        rw [beq_iff_eq, byteAt_windowEntry l i (by omega), show 0x0C + 6 * i + 5 = 0x11 + 6 * i by omega]
      case tag => exact beq_iff_eq
      case check => exact beq_iff_eq
      case granule => exact granuleCode_iff _
      case clock => exact decide_and_decide_iff
      case hold => exact decide_eq_true_iff
      case yield => exact decide_eq_true_iff
      case journal =>
        refine (iff_of_eq (Bool.and_eq_true _ _)).trans ?_
        rw [decide_and_decide_iff, decide_eq_true_iff, and_assoc]
      case count => exact decide_eq_true_iff
      case range => exact List.all_eq_true.trans (forall₂_congr fun _ _ => decide_and_decide_iff)
      case journalOverlap =>
        refine (iff_of_eq (Bool.not_eq_true' _)).trans (List.any_eq_false.trans (forall₂_congr fun w _ => ?_))
        exact journalOverlaps_iff k w
    refine ⟨rfl, rfl, rfl, rfl, rfl, rfl, rfl, readConfig_windows_length l, fun i mode hi hm => ?_, fun r => ?_, ?_⟩
    · exact readConfig_window hi (windowMode?_eq_of_mem hm)
    · simp only [validate_eq_some_iff, hpasses]
      exact Iff.rfl
    · simp only [validate_eq_none_iff, hpasses]
  · intro s m slot h hlast hread bytes k
    have hnamed : CycleNamed .configSlotReadComplete s :=
      ⟨h.cycle.noReset, m, h.cycle.inFlight, h.cycle.claimant, ⟨slot, h.current⟩, hlast⟩
    refine ⟨settle (configSlotRead (s.freed m (.configRead slot)) slot),
      exec_lastOfSequence hnamed h (by simp) (by simp [sequenceAtLast, hlast]), ?_⟩
    have hkept := workKept_freed s m (.configRead slot)
    have haround := surroundings_freed s m (.configRead slot)
    have hcommand := freed_command s m (.configRead slot)
    have hstatus := freed_status s m (.configRead slot) (by simp)
    have htxn := freed_txn s m (.configRead slot)
    have hjournal := freed_journal s m (.configRead slot)
    have htracker := freed_tracker s m (.configRead slot)
    have hengine := freed_engine s m (.configRead slot)
    have hsequences := freed_sequences s m (.configRead slot)
    have hcurrent := freed_current s m (.configRead slot)
    have hconfig : (s.freed m (.configRead slot)).config =
        { s.config with buffer := bytes, progress := s.config.progress + 1 } := by
      have h63 : s.config.progress = 63 := by omega
      simp [State.freed, sequenceKeeps, configKeeps, cycleByte_of_read hread, bytes, h63]
    have hstrap := haround.strap
    have hdecoder := haround.decoder
    generalize s.freed m (.configRead slot) = v at *
    have hval : validate v.port.strap v.config.buffer = validate s.port.strap bytes := by rw [hstrap, hconfig]
    have hcommon := configSlotRead_common v slot
    refine ⟨(hkept.trans (hcommon.1.trans (workKept_settle _))).workFrame h.cycle.canon, by simp [hcommon.2, hconfig],
      by simp [hjournal], by simp [htracker], by simp [hengine], by constructor <;> simp [hcommand],
      fun r cmd q hslot hr hflight => ?_, fun hslot hr => ?_, fun hslot hr => ?_, fun r hslot hr => ?_,
      fun r hslot hr hop => ?_⟩
    · subst hslot
      have hgo : configSlotRead v .staged = adoptFails v r := by simp [configSlotRead, hval, hr]
      have hleaves := (leaves_endExecution (s := v.setConfig { v.config with adopting := false })
        (by simpa [hcommand] using hflight) .configInvalid (.config r)).settle
      rw [hgo]
      refine ⟨hleaves.txn.trans ?_, hleaves.adopting, hleaves.loaded.trans haround.loaded,
        hleaves.origin.trans (by simp [hconfig]), hleaves.around.decoder.trans hdecoder,
        hleaves.queue.trans (by simp [hstatus]), hleaves.sequences.trans (by simp [hsequences])⟩
      rw [outcome_congr (t := settle (adoptFails v r)) (s := v) (congrArg Controller.frames hleaves.txn :) hleaves.journal]
      simp [htxn, State.outcome, State.depth]
    · subst hslot
      have hgo : configSlotRead v .staged = requestSequence v (.configWrite .secondary) := by
        simp [configSlotRead, hval, hr]
      have hleaves := (leaves_requestSequence v (.configWrite .secondary)).settle
      rw [hgo]
      exact ⟨hleaves.txn.trans htxn, hleaves.adopting.trans (by simp [hconfig]),
        hleaves.around.decoder.trans hdecoder, hleaves.loaded.trans haround.loaded,
        hleaves.queue.trans (by simp [hstatus]), hleaves.sequences.trans (by simp [hsequences])⟩
    · have hgo : configSlotRead v slot = loadingEnds v k := by
        have hk : readConfig v.config.buffer = k := by rw [hconfig]
        cases slot with
        | staged => exact absurd rfl hslot
        | _ => simp [configSlotRead, hval, hr, hk]
      have hleaves := (leaves_loadingEnds v k).settle
      rw [hgo]
      refine ⟨hleaves.txn.trans (by rw [← htxn]; rfl), hleaves.loaded, hleaves.around.decoder.trans ?_,
        hleaves.around.yieldLimit, hleaves.queue.trans ?_, hleaves.sequences.trans ?_⟩
      · rw [← hstrap]; rfl
      · rw [← hstatus]; rfl
      · rw [← hsequences]; rfl
    · subst hslot
      have hgo : configSlotRead v .primary = requestSequence v (.configRead .secondary) := by
        simp [configSlotRead, hval, hr]
      have hleaves := (leaves_requestSequence v (.configRead .secondary)).settle
      rw [hgo]
      exact ⟨hleaves.txn.trans htxn, hleaves.around.decoder.trans hdecoder, hleaves.loaded.trans haround.loaded,
        hleaves.queue.trans (by simp [hstatus]), hleaves.sequences.trans (by simp [hsequences])⟩
    · subst hslot
      have hgo : configSlotRead v .secondary = noConfigEnds v := by simp [configSlotRead, hval, hr]
      have hleaves := (leaves_noConfigEnds (s := v) (by rw [htxn, hop]; rfl) (by simp [hcurrent])).settle
      rw [hgo]
      refine ⟨hleaves.txn.trans (by rw [← htxn]; rfl), hleaves.around.decoder.trans ?_,
        hleaves.loaded.trans haround.loaded, hleaves.queue.trans (by rw [← hstatus]; rfl),
        hleaves.sequences.trans (by rw [← hsequences]; rfl)⟩
      rw [← hstrap, ← hdecoder]
      rfl

end Sys2Proof
end

section
/-! SUPPORT. The end of what holds a host cycle lifts its hold (R66, R70, R76, R77): the void mark (R23, R37), the
epoch advance (R14, R33, R38, R42, R166, R179) and the restore fault in ABORTING (R39, R106). -/

namespace Sys2Proof.Machine

variable {s t u : State} {m : MemCycle} {c : HostCycle}

/-! ### A raise that the command's update carries (R144) -/

/-- With a command in flight whose update will still write the event area, a raise outside start-up asks for
nothing. -/
theorem raiseEvent_of_carried (hst : s.txn.op.isStartup = false) (hc : s.commandCarries = true) (k : EventKind)
    (d : EventDetail) (arg : Option Nat) : raiseEvent s k d arg = s.setStatus (takeRaise s.status k d arg) := by
  have hcarries : (s.setStatus (takeRaise s.status k d arg)).commandCarries = true := by
    rw [commandCarries_iff] at hc ⊢
    simpa using hc
  unfold raiseEvent updateForRaise
  rw [if_neg (by simp [hst]), requestRaiseUpdate, if_pos hcarries]

/-- The update of a command just requested will write the event area. -/
theorem commandCarries_request (hflight : s.command.inFlight.isSome = true)
    (hc : s.control.current ≠ some (.update .command)) :
    (requestSequence s (.update .command)).commandCarries = true := by
  rw [commandCarries_iff]
  refine ⟨by simpa using hflight, ?_⟩
  unfold requestSequence
  split
  · simp [beginSequence, prepareSequence, State.claimControl]
  · simp [hc]

/-! ### A hold that is lifted (R66, R70, R76 to R78, R80) -/

theorem withCycle_eq (hcycle : s.host.cycle = some c) (hf : s.host.hfault = false) : s.withCycle c = s := by
  have : ({ s.host with cycle := some c, hfault := false } : HostPort) = s.host := by rw [← hcycle, ← hf]
  rw [State.withCycle, this]
  rfl

/-- A held write as it is judged again (R66). -/
def HostCycle.again (c : HostCycle) (s : State) : HostCycle := { c with cls := classify s c.addr, cause := none }

theorem rejudge_eq (c : HostCycle) (hf : s.host.hfault = false) :
    rejudge s c = applyJudgement (s.withCycle (c.again s)) (judge s (c.again s)) := by
  have : ({ s.host with cycle := some (c.again s) } : HostPort) =
      { s.host with cycle := some (c.again s), hfault := false } := by rw [← hf]
  show applyJudgement (s.setHost { s.host with cycle := some (c.again s) })
    (judge (s.setHost { s.host with cycle := some (c.again s) }) (c.again s)) = _
  rw [this]
  rfl

theorem sequences_raiseRefusal (hst : s.txn.op.isStartup = false) (hc : s.commandCarries = true) (r : WriteReason)
    (a : Addr) : (raiseRefusal s r a).sequences = s.sequences := by
  unfold raiseRefusal
  split <;> rw [raiseEvent_of_carried hst hc] <;> rfl

/-- The fault of a cycle that no staged read waits for asks for nothing where the command's update carries its
event. -/
theorem sequences_refuseWrite (hst : s.txn.op.isStartup = false) (hcarries : s.commandCarries = true)
    (hr : s.config.readWaits = false) (r : WriteReason) : (refuseWrite s r).sequences = s.sequences := by
  cases hc : s.host.cycle with
  | none => simp [refuseWrite, hc]
  | some c =>
    rw [refuseWrite_eq hc, (endWithFault_releases (by simp [hc])).2]
    have hseq : (s.refusalReported r c.addr).sequences = s.sequences := by
      simpa [State.refusalReported, State.sequences] using sequences_raiseRefusal hst hcarries r c.addr
    simp [hseq, hr]

theorem sequences_applyJudgement (hst : s.txn.op.isStartup = false) (hcarries : s.commandCarries = true)
    (hr : s.config.readWaits = false) {j : Judgement} (hj : j ≠ .startFault) :
    (applyJudgement s j).sequences = s.sequences := by
  cases j with
  | pass => simp [applyJudgement, State.sequences]
  | hold x => simp [applyJudgement, State.sequences]
  | fault r => exact sequences_refuseWrite hst hcarries hr r
  | startFault => exact absurd rfl hj
  | append => simp [applyJudgement, State.sequences]

/-- Of a pass only the cycle's claim depends on the cause it is held with. -/
theorem Passes.of_cause (h : Passes s t c) {c' : HostCycle} (he : { c with cause := none } = { c' with cause := none }) :
    Passes s t c' := by
  obtain ⟨a, w, d, k, x⟩ := c
  obtain ⟨a', w', d', k', x'⟩ := c'
  obtain ⟨rfl, rfl, rfl, rfl, -⟩ := HostCycle.mk.inj he
  exact ⟨h.1, h.2, h.3, h.4, h.5, h.6, h.7⟩

/-- The end of COMMITTING or ABORTING with a cycle held for it, before its hold is lifted. -/
structure Lifts (s : State) (c : HostCycle) : Prop where
  cycle    : s.host.cycle = some c
  cause    : (c.isWrite = true ∧ (c.cause = some .commit ∨ c.cause = some .abort)) ∨
    (c.isWrite = false ∧ (c.cause = some .spill ∨ c.cause = some .pending))
  noFault  : s.host.hfault = false
  noAppend : s.journal.append = none
  noRead   : s.config.readWaits = false
  carries  : s.commandCarries = true
  ended    : s.txn.op = .ready ∨ s.txn.op = .faulted

theorem Lifts.outside (h : Lifts s c) : s.txn.op.isStartup = false := by
  rcases h.ended with hop | hop <;> rw [hop] <;> rfl

theorem judge_ne_startFault (hst : s.txn.op.isStartup = false) (hw : c.isWrite = true) :
    judge s c ≠ .startFault := by
  have hop : ∀ p, s.txn.op ≠ .startup p := fun p hp => by simp [hp, OpState.isStartup] at hst
  have hj : judge s c = if s.warning then .fault .power else judgeWriteByClass s c.cls := by
    cases hwarn : s.warning
    · simpa [judge, hw] using judgeWrite_noWarning hst hwarn c.cls
    · simpa [judge, hw] using judgeWrite_warning hst hwarn c.cls
  rw [hj]
  unfold judgeWriteByClass judgeJournaled judgeUnframed judgeFramed
  (repeat' split) <;> simp_all

/-- The held write's new judgement, and the step's close. -/
theorem Lifts.again (h : Lifts s c) (hw : c.isWrite = true) : settle (releaseHeld s) =
    settle (applyJudgement (s.withCycle (c.again s)) (judge s (c.again s))) := by
  obtain ⟨-, hx⟩ := h.cause.resolve_right fun hr => by simp [hr.1] at hw
  have hrelease : releaseHeld s = rejudge s c := by rcases hx with hx | hx <;> simp [releaseHeld, h.cycle, hx]
  rw [hrelease, rejudge_eq c h.noFault]

theorem Lifts.passes (h : Lifts s c) (hw : c.isWrite = true) (hj : judge s (c.again s) = .pass) :
    Passes s (settle (releaseHeld s)) (c.again s) := by
  rw [h.again hw, hj]
  exact passes_settle s _ h.noAppend

theorem Lifts.refused (h : Lifts s c) (hw : c.isWrite = true) {r : WriteReason}
    (hj : judge s (c.again s) = .fault r) : Refused s (settle (releaseHeld s)) r c.addr := by
  rw [h.again hw, hj]
  exact refused_settle (s := s) (u := s.withCycle (c.again s)) rfl rfl rfl rfl (hostCycleFrame_withCycle s _) r

theorem Lifts.appends (h : Lifts s c) (hw : c.isWrite = true) {mode : WindowMode} {g i : Nat}
    (hcls : classify s c.addr = .window mode g i) (hj : judge s (c.again s) = .append) :
    Held s (settle (releaseHeld s)) { c with cls := .window mode g i } .append ∧
      (settle (releaseHeld s)).journal = { s.journal with
        append := some ⟨c.addr, c.data, s.depth, g, s.journal.n, 0, none⟩ } := by
  obtain ⟨⟨hcycle, hwait, htimer, hfault, hreports, htxn, hframe⟩, hjournal, -⟩ :=
    appends_settle s (c := c.again s) hcls
  rw [h.again hw, hj]
  exact ⟨⟨by rw [← hcls]; exact hcycle, hwait, htimer, hfault, hreports, htxn, hframe⟩, hjournal⟩

/-- What held the cycle has ended: a read passes, and a write is judged again. -/
theorem Lifts.holdLifted (h : Lifts s c) : HoldLifted s (settle (releaseHeld s)) c := by
  rcases h.cause with ⟨hw, -⟩ | ⟨hr, hx⟩
  · have hpass : ∀ {mode : WindowMode} {g i : Nat}, classify s c.addr = .window mode g i →
        judge s (c.again s) = .pass → Passes s (settle (releaseHeld s)) { c with cls := .window mode g i } :=
      fun hcls hj => (h.passes hw hj).of_cause (by rw [← hcls]; rfl)
    refine ⟨?_, fun hr => by simp [hw] at hr, fun _ hp => h.refused hw ?_, fun mode g i _ hp hcls hmode => ?_⟩
    · rw [h.again hw, sequences_settle]
      exact sequences_applyJudgement (s := s.withCycle (c.again s)) h.outside h.carries h.noRead
        (judge_ne_startFault h.outside hw)
    · exact (if_pos hw).trans (judgeWrite_warning h.outside hp _)
    · have hj : judge s (c.again s) = judgeJournaled s mode g := by
        refine (if_pos hw).trans ((judgeWrite_noWarning h.outside hp _).trans ?_)
        show judgeWriteByClass s (classify s c.addr) = _
        rw [hcls]
        cases mode
        case frozen => exact absurd rfl hmode
        all_goals rfl
      rw [judgeJournaled.eq_def] at hj
      refine ⟨fun hop => h.refused hw (by rw [hj, hop]), fun hop hd => ?_, fun hop hd => ?_⟩
      · rw [hop] at hj
        replace hj := hj.trans (if_pos hd)
        exact ⟨fun hm => hpass hcls (hj.trans (by rw [hm]; rfl)), fun hm => h.refused hw (hj.trans (by rw [hm]; rfl))⟩
      · have hhit : trackerHit s.tracker g s.depth = true ↔ ∃ e ∈ s.tracker, e.granule = g ∧ e.depth = s.depth := by
          simp [trackerHit]
        rw [hop] at hj
        replace hj := hj.trans (if_neg (by omega))
        rw [judgeFramed] at hj
        simp only [← hhit]
        split
        case isTrue ht => exact hpass hcls (hj.trans (if_pos ht))
        case isFalse ht =>
          replace hj := hj.trans (if_neg ht)
          split
          case isTrue hroom => exact h.appends hw hcls (hj.trans (if_pos hroom))
          case isFalse hfull => exact h.refused hw (hj.trans (if_neg hfull))
  · have hrelease : releaseHeld s = claimPass (s.withCycle c) := by
      rw [withCycle_eq h.cycle h.noFault]
      rcases hx with hx | hx <;> simp [releaseHeld, h.cycle, hx]
    rw [hrelease]
    refine ⟨?_, fun _ => passes_settle s c h.noAppend, fun hw => by simp [hr] at hw, fun _ _ _ hw => by simp [hr] at hw⟩
    rw [sequences_settle, withCycle_eq h.cycle h.noFault]
    simp [State.sequences]

/-! ### What ends, with the hold it lifts -/

/-- A request changes the memory port in the control unit's claim alone. -/
theorem requestSequence_port (s : State) (k : Sequence) : (requestSequence s k).port =
    { s.port with claimControl := (requestSequence s k).port.claimControl } := by
  unfold requestSequence
  split
  · cases k <;> rfl
  · rfl

/-- Where what ended holds of the state before the lift and after any close of the step, it is said of the state the
step answers, or of the one in which the hold is lifted. -/
theorem endsAndLifts_releaseHeld {ends : State → Prop} (hhost : u.host = s.host)
    (hport : Sequence.update .command ∉ s.sequences →
      u.port = { s.port with inFlight := none, claimControl := u.port.claimControl })
    (happend : u.journal.append = s.journal.append) (hreads : u.config.readWaits = s.config.readWaits)
    (hcarries : Sequence.update .command ∉ s.sequences → u.commandCarries = true)
    (hop : u.txn.op = .ready ∨ u.txn.op = .faulted) (hends : ∀ t, Leaves u t [] → ends t) :
    EndsAndLifts s (settle (releaseHeld u)) ends := by
  refine ⟨fun hn => ?_, fun c hc => ⟨u, hends u (Leaves.refl u), hhost, hport hc.noUpdate, ?_⟩⟩
  · rw [releaseHeld_of_noneToLift (by rw [State.NoneToLift, hhost]; exact hn)]
    exact hends _ (leaves_settle u)
  · have hlifts : Lifts u c := ⟨by rw [hhost, hc.cycle], hc.cause, by rw [hhost, hc.noFault],
      by rw [happend, hc.noAppend], by rw [hreads, hc.noRead], hcarries hc.noUpdate, hop⟩
    exact hlifts.holdLifted

theorem landCycle_port (s : State) (m : MemCycle) : (landCycle s m).port = { s.port with inFlight := none } := by
  unfold landCycle
  simp only
  split <;> rfl

/-- The execution of the command in flight has ended, with nothing done but its outcome and the request of its
update (R126, R128). -/
structure ExecutionEnded (s t : State) (cmd : Command) (q : Half) (r : Result) (d : ResultDetail) : Prop where
  keeps     : Keeps s t
  txn       : t.txn = { s.txn with stage := t.outcome cmd q r d }
  journal   : t.journal = s.journal
  tracker   : t.tracker = s.tracker
  engine    : t.engine = s.engine
  queue     : t.status.queue = s.status.queue
  dropped   : t.status.dropped = s.status.dropped
  sequences : t.sequences = s.sequences ++ [.update .command]

theorem executionEnded_of_leaves {cmd : Command} {q : Half} {r : Result} {d : ResultDetail}
    (h : Leaves (s.setTxn { s.txn with stage := s.outcome cmd q r d }) t [.update .command]) :
    ExecutionEnded s t cmd q r d := by
  have hframes : t.txn.frames = s.txn.frames := (congrArg Controller.frames h.txn :)
  refine ⟨(keeps_setTxn s _).trans (h.keeps (by simp)), ?_, h.journal, h.tracker, h.engine, h.queue, h.dropped,
    h.sequences⟩
  rw [outcome_congr hframes h.journal]
  exact h.txn

theorem executionEnded_settle {cmd : Command} {q : Half} (h : s.command.inFlight = some (cmd, q)) (r : Result)
    (d : ResultDetail) : ExecutionEnded s (settle (endExecution s r d)) cmd q r d :=
  executionEnded_of_leaves (leaves_endExecution h r d).settle

/-- The end of a command's execution, with the hold it lifts. -/
theorem endsAndLifts_endExecution {ends : State → Prop} {cmd : Command} {q : Half} (hhost : u.host = s.host)
    (hport : Sequence.update .command ∉ s.sequences → u.port = { s.port with inFlight := none })
    (happend : u.journal.append = s.journal.append)
    (hreads : u.config.readWaits = s.config.readWaits) (hflight : u.command.inFlight = some (cmd, q))
    (hcurrent : Sequence.update .command ∉ s.sequences → u.control.current ≠ some (.update .command))
    (hop : u.txn.op = .ready ∨ u.txn.op = .faulted) (r : Result) (d : ResultDetail)
    (hends : ∀ t, ExecutionEnded u t cmd q r d → ends t) :
    EndsAndLifts s (settle (releaseHeld (endExecution u r d))) ends := by
  have hleaves := leaves_endExecution hflight r d
  have hrequest : endExecution u r d =
      requestSequence (u.setTxn { u.txn with stage := u.outcome cmd q r d }) (.update .command) := by
    unfold endExecution
    rw [hflight]
    rfl
  refine endsAndLifts_releaseHeld (by simp [hhost]) (fun hno => ?_) (by simp [happend]) (by simp [hreads]) (fun hno => ?_)
    (by simpa using hop) fun t ht => hends t
      (executionEnded_of_leaves (by simpa using hleaves.trans ht))
  · rw [hrequest, requestSequence_port]
    simp only [State.setTxn_port, hport hno]
  · rw [hrequest]
    exact commandCarries_request (by simp [hflight]) (hcurrent hno)

/-! ### The end of an epoch advance (R14, R33, R38, R42, R48) -/

theorem keeps_advanceEpoch (s : State) (x : HeaderSlot) (e : Long) (g : Geometry) :
    Keeps s (advanceEpoch s x e g) :=
  ⟨⟨rfl, fun _ => rfl, ⟨rfl, rfl, rfl⟩, rfl, rfl, rfl, rfl, rfl, rfl⟩, ⟨rfl, rfl, rfl, rfl, rfl, rfl, rfl⟩,
    ⟨rfl, rfl, rfl, rfl⟩, rfl⟩

/-- READY with every frame removed. -/
def State.framesClosed (s : State) : State := s.setTxn { s.txn with frames := [], op := .ready }

/-- With no frame open a cycle that is released asks for no append. -/
theorem releaseHeld_journal_of_frameless (h : s.txn.frames = []) : (releaseHeld s).journal = s.journal := by
  have hjudge : ∀ c, (rejudge s c).journal = s.journal := fun c => by
    unfold rejudge
    simp only
    generalize hj : judge _ _ = j
    cases j with
    | append =>
      obtain ⟨-, hd, -⟩ := judge_append hj
      simp [State.depth, h] at hd
    | _ => simp [applyJudgement]
  unfold releaseHeld
  (repeat' split) <;> simp [hjudge]

/-- What an epoch advance ends, by the operating state. -/
theorem epochAdvanceCompletes_cases (s : State) (x : HeaderSlot) (e : Long) (g : Geometry) :
    (s.txn.op = .committing → epochAdvanceCompletes s x e g = committingEnds (advanceEpoch s x e g)) ∧
    (s.txn.op = .aborting → epochAdvanceCompletes s x e g = outerAbortEnds (advanceEpoch s x e g)) ∧
    (s.txn.op = .faulted → epochAdvanceCompletes s x e g = discardEnds (advanceEpoch s x e g)) ∧
    (s.txn.op = .setup → epochAdvanceCompletes s x e g = adoptInstalls (advanceEpoch s x e g)) ∧
    (∀ p, s.txn.op = .startup p → epochAdvanceCompletes s x e g = closingEnds (advanceEpoch s x e g)) := by
  refine ⟨?_, ?_, ?_, ?_, ?_⟩ <;> intros <;> simp [epochAdvanceCompletes, *]

/-- Whatever asked for the advance, the header is in force and the tracker empty at its end. -/
theorem epochAdvanceCompletes_effect (s : State) (x : HeaderSlot) (e : Long) (g : Geometry) :
    (epochAdvanceCompletes s x e g).journal = (advanceEpoch s x e g).journal ∧
      (epochAdvanceCompletes s x e g).tracker = [] := by
  have htracker : (advanceEpoch s x e g).tracker = [] := rfl
  unfold epochAdvanceCompletes
  simp only
  generalize advanceEpoch s x e g = w at htracker ⊢
  split
  · refine ⟨?_, by simp [committingEnds, htracker]⟩
    rw [committingEnds, releaseHeld_journal_of_frameless (by simp)]
    simp
  · refine ⟨?_, by simp [outerAbortEnds, htracker]⟩
    rw [outerAbortEnds, releaseHeld_journal_of_frameless (by simp)]
    simp
  all_goals simp [discardEnds, adoptInstalls, htracker]

end Sys2Proof.Machine

namespace Sys2Proof

open Machine

/-- Settles O36: the execution of the abort ends with the mark, in READY without the top frame. -/
theorem voidMarkEndsTheInnerAbort : Obligations.VoidMarkEndsTheInnerAbort := by
  intro s m cmd q f rest h hflight hframes
  have hnamed : CycleNamed .voidMarkWritten s :=
    ⟨h.cycle.noReset, m, h.cycle.inFlight, h.cycle.claimant, h.current⟩
  refine ⟨settle (innerAbortEnds (s.freed m .voidMark)), exec_lastOfSequence hnamed h (by simp) rfl, ?_⟩
  have hkept := workKept_freed s m .voidMark
  have haround := surroundings_freed s m .voidMark
  have hcommand := sameCommand_freed s m .voidMark
  have hstatus := freed_status s m .voidMark (by simp)
  have hconfig := freed_config s m .voidMark (by simp)
  rw [innerAbortEnds_eq]
  refine endsAndLifts_endExecution (u := (s.freed m .voidMark).topRemoved) (cmd := cmd) (q := q)
    (freed_host s m _) (fun _ => (freed_port s m _).trans (landCycle_port s m))
    (congrArg Journal.append (freed_journal s m _)) (congrArg ConfigUnit.readWaits hconfig)
    ((congrArg CommandPort.inFlight (freed_command s m _)).trans hflight) (fun _ => nofun) (.inl rfl) _ _
    fun t ht => ?_
  have htopped : Keeps (s.freed m .voidMark) (s.freed m .voidMark).topRemoved :=
    ⟨⟨rfl, fun _ => rfl, ⟨rfl, rfl, rfl⟩, rfl, rfl, rfl, rfl, rfl, rfl⟩, ⟨rfl, rfl, rfl, rfl, rfl, rfl, rfl⟩,
      ⟨rfl, rfl, rfl, rfl⟩, rfl⟩
  have hkeeps := htopped.trans ht.keeps
  refine ⟨(hkept.trans hkeeps.kept).workFrame h.cycle.canon, ht.tracker.trans ?_, ht.txn.trans ?_,
    ht.sequences.trans (by simp [State.topRemoved]), ht.journal.trans (freed_journal s m _),
    ht.engine.trans (freed_engine s m _), hkeeps.config.trans hconfig,
    ht.queue.trans (congrArg Status.queue hstatus), ht.dropped.trans (congrArg Status.dropped hstatus),
    hcommand.trans hkeeps.command, haround.trans hkeeps.around⟩
  · simp [State.topRemoved, trackerRemoveDepth]
  · simp [State.topRemoved, hframes]

/-- Settles O39: the branches of what the advance ends leave the journal unit and the tracker alone. -/
theorem epochAdvanceTakesEffect : Obligations.EpochAdvanceTakesEffect := by
  intro s m x epoch g h hlast
  have hnamed : CycleNamed .epochAdvanceComplete s :=
    ⟨h.cycle.noReset, m, h.cycle.inFlight, h.cycle.claimant, ⟨x, epoch, g, h.current⟩, hlast⟩
  obtain ⟨hjournal, htracker⟩ := epochAdvanceCompletes_effect (s.freed m (.headerWrite x epoch g)) x epoch g
  refine ⟨settle (epochAdvanceCompletes (s.freed m (.headerWrite x epoch g)) x epoch g),
    exec_lastOfSequence hnamed h (by simp) (by simp [sequenceAtLast, hlast]),
    memoryAfter_of_mem_eq s _ m h.cycle.canon (by simp [(workKept_freed s m _).mem]), ?_, by simp [htracker]⟩
  rw [settle_journal, hjournal, ← freed_journal s m (.headerWrite x epoch g)]
  rfl

/-- Settles O40, by the work that asked for the advance. -/
theorem epochAdvanceEndsItsWork : Obligations.EpochAdvanceEndsItsWork := by
  intro s m x epoch g h hlast effect ended
  have hnamed : CycleNamed .epochAdvanceComplete s :=
    ⟨h.cycle.noReset, m, h.cycle.inFlight, h.cycle.claimant, ⟨x, epoch, g, h.current⟩, hlast⟩
  refine ⟨settle (epochAdvanceCompletes (s.freed m (.headerWrite x epoch g)) x epoch g),
    exec_lastOfSequence hnamed h (by simp) (by simp [sequenceAtLast, hlast]), ?_⟩
  obtain ⟨hcommitting, haborting, hfaulted, hsetup, hclosing⟩ :=
    epochAdvanceCompletes_cases (s.freed m (.headerWrite x epoch g)) x epoch g
  have hjournal : (advanceEpoch (s.freed m (.headerWrite x epoch g)) x epoch g).journal = effect := by
    show { (s.freed m (.headerWrite x epoch g)).journal with
      slot := some x, epoch := epoch, geometry := some g, capacity := capacityOf g, n := 0, link := epochLow epoch } = _
    rw [freed_journal]
    rfl
  have htracker : (advanceEpoch (s.freed m (.headerWrite x epoch g)) x epoch g).tracker = [] := rfl
  have hfreed := keeps_advanceEpoch (s.freed m (.headerWrite x epoch g)) x epoch g
  have hkept := (workKept_freed s m (.headerWrite x epoch g)).trans hfreed.kept
  have haround := (surroundings_freed s m (.headerWrite x epoch g)).trans hfreed.around
  have hsame := (sameCommand_freed s m (.headerWrite x epoch g)).trans hfreed.command
  have hstatus := freed_status s m (.headerWrite x epoch g) (by simp)
  have hconfig := freed_config s m (.headerWrite x epoch g) (by simp)
  have hrest : ∀ v : State, v = advanceEpoch (s.freed m (.headerWrite x epoch g)) x epoch g →
      v.txn = s.txn ∧ v.engine = s.engine ∧ v.sequences = s.control.waiting ∧ v.host = s.host ∧
      v.port = { s.port with inFlight := none } ∧ v.control.current = none ∧ v.status = s.status ∧
      v.config = s.config := by
    rintro v rfl
    exact ⟨freed_txn s m _, freed_engine s m _, freed_sequences s m _, freed_host s m _,
      (freed_port s m _).trans (landCycle_port s m), rfl, hstatus, hconfig⟩
  obtain ⟨htxn, hengine, hsequences, hhost, hport, hcurrent, hstatus, hconfig⟩ := hrest _ rfl
  rw [freed_txn] at hcommitting haborting hfaulted hsetup hclosing
  generalize advanceEpoch (s.freed m (.headerWrite x epoch g)) x epoch g = w at *
  have hended : ∀ {cmd q d t v}, WorkKept w v → SameCommand w v → v.journal = w.journal → v.tracker = w.tracker →
      v.sequences = w.sequences → v.status = w.status → ExecutionEnded v t cmd q .done d → ended t :=
    fun hv hc hj htr hseq hst ht =>
      ⟨(hkept.trans (hv.trans ht.keeps.kept)).workFrame h.cycle.canon, ht.journal.trans (hj.trans hjournal),
        ht.tracker.trans (htr.trans htracker), ht.sequences.trans (by rw [hseq, hsequences]),
        ht.queue.trans (by rw [hst, hstatus]), ht.dropped.trans (by rw [hst, hstatus]),
        hsame.trans (hc.trans ht.keeps.command)⟩
  refine ⟨fun cmd q hflight => ?_, fun hop => ?_⟩
  · have hflight' : w.command.inFlight = some (cmd, q) := hsame.inFlight.trans hflight
    have hclosed : Keeps w w.framesClosed := keeps_setTxn w _
    have hlift : ∀ d, EndsAndLifts s (settle (releaseHeld (endExecution w.framesClosed .done d))) fun t =>
        ended t ∧ t.txn = { s.txn with op := .ready, frames := [], stage := t.outcome cmd q .done d } ∧
          t.engine = s.engine ∧ t.config = s.config ∧ Surroundings s t := fun d =>
      endsAndLifts_endExecution (u := w.framesClosed) hhost (fun _ => hport) (by rw [State.framesClosed, State.setTxn_journal, hjournal])
        (congrArg ConfigUnit.readWaits hconfig) hflight' (fun _ => by simp [State.framesClosed, hcurrent])
        (.inl rfl) .done d fun t ht =>
        ⟨hended hclosed.kept hclosed.command rfl rfl rfl rfl ht, ht.txn.trans (by rw [← htxn]; rfl),
          ht.engine.trans hengine, ht.keeps.config.trans hconfig, haround.trans (hclosed.around.trans ht.keeps.around)⟩
    refine ⟨fun hop first hframes => ?_, fun hop => ?_, fun hop => ?_, fun hop => ?_⟩
    · have := hlift (.number first.opening.toNat)
      rw [hcommitting hop, committingEnds, htxn, hframes]
      rw [State.framesClosed, htxn] at this
      exact this
    · have := hlift (.number s.engine.count)
      rw [haborting hop, outerAbortEnds, hengine]
      exact this
    · let v := (w.setEngine { w.engine with run := .idle, cursor := none, count := 0, reason := none }).framesClosed
      have hv : Keeps w v := (keeps_setEngine w _).trans (keeps_setTxn _ _)
      have ht := executionEnded_settle (s := v) hflight' .done (.number 0)
      rw [hfaulted hop]
      exact ⟨hended hv.kept hv.command rfl rfl rfl rfl ht, ht.txn.trans (by rw [← htxn]; rfl),
        ht.engine.trans (by rw [← hengine]; rfl), ht.keeps.config.trans hconfig,
        haround.trans (hv.around.trans ht.keeps.around)⟩
    · let c := readConfig s.config.buffer
      let v := ((loadConfig w c).setConfig { s.config with loaded := some c, adopting := false, origin := none }).framesClosed
      have hgo : adoptInstalls w = endExecution v .done (.number 0) := by
        simp only [adoptInstalls, v, c, ← hconfig]
        rfl
      have ht := executionEnded_settle (s := v) hflight' .done (.number 0)
      rw [hsetup hop, hgo]
      exact ⟨hended (v := v) ⟨rfl, fun _ => rfl, ⟨rfl, rfl, rfl⟩, rfl, rfl, rfl, rfl, rfl, rfl⟩ ⟨rfl, rfl, rfl, rfl⟩
          rfl rfl rfl rfl ht,
        ht.txn.trans (by rw [← htxn]; rfl), ht.keeps.config, ht.keeps.around.decoder.trans (by rw [← haround.decoder]; rfl),
        ht.keeps.around.yieldLimit, ht.engine.trans hengine⟩
  · have ht := (leaves_closingEnds (s := w) (by rw [htxn, hop]; rfl) (by simp [hcurrent])).settle
    have hkeeps : Keeps w (settle (closingEnds w)) := (keeps_closingEnds w).trans (keeps_settle _)
    rw [hclosing _ hop]
    exact ⟨(hkept.trans hkeeps.kept).workFrame h.cycle.canon, ht.journal.trans hjournal, ht.tracker.trans htracker,
      ht.txn.trans (by rw [← htxn]; rfl), ht.engine.trans hengine, hkeeps.config.trans hconfig,
      ht.queue.trans (by rw [← hstatus, ← htxn]; rfl), ht.sequences.trans (by rw [← hsequences]; rfl),
      hsame.trans hkeeps.command, haround.trans hkeeps.around⟩

end Sys2Proof
end

section
/-! SUPPORT. The restore engine's memory cycles (R92 to R98, R102, R105): a record read, a step completed, and the
run's end. -/

namespace Sys2Proof.Machine

variable {s t u : State} {m : MemCycle}

/-! ### A record read (R92, R93, R105) -/

/-- The checks read the epoch, the geometry, the strapped size and the run's target. -/
theorem verifyRecord_congr (hjournal : t.journal = s.journal) (hstrap : t.port.strap = s.port.strap)
    (htarget : t.engine.target = s.engine.target) (bytes : List Byte) (p : Nat) :
    verifyRecord t bytes p = verifyRecord s bytes p := by
  have hgeometry : t.geometry = s.geometry := by rw [State.geometry, hjournal, State.geometry]
  unfold verifyRecord rangePasses State.controlBase
  rw [hgeometry, hjournal, hstrap, htarget]

/-- The state in which the last byte of a record has been kept (R92). -/
def State.recordKept (s : State) (m : MemCycle) : State := engineKeeps (landCycle s m) (cycleByte s m)

theorem claimantGoesOn_lastRead (h : s.engine.reads + 1 = s.geometry.granule + 10) (m : MemCycle) :
    claimantGoesOn (landCycle s m) .engine (cycleByte s m) = recordRead (s.recordKept m) := by
  have hlast : engineAtLastRead (landCycle s m) = true := by simp [engineAtLastRead, recordSize, h]
  have hmore : s.engine.reads < recordSize s.geometry.granule := by simp [recordSize]; omega
  simp [claimantGoesOn, engineCycleEnds, hlast, hmore, State.recordKept]

theorem workKept_recordKept (s : State) (m : MemCycle) : WorkKept (landCycle s m) (s.recordKept m) :=
  (keeps_setEngine _ _).kept

theorem surroundings_recordKept (s : State) (m : MemCycle) : Surroundings s (s.recordKept m) :=
  (surroundings_landCycle s m).trans (keeps_setEngine _ _).around

/-- The record kept is judged by the first check it fails (R93). -/
theorem recordRead_cases {bytes : List Byte} {p : Nat} (hbuffer : s.engine.buffer = bytes)
    (hcursor : s.engine.cursor = some p) :
    (verifyRecord s bytes p = none → recordRead s = engineGoesOn s) ∧
      ∀ r, verifyRecord s bytes p = some r → recordRead s = restoreFault s r p := by
  refine ⟨fun h => ?_, fun r h => ?_⟩ <;> simp [recordRead, hbuffer, hcursor, h]

/-- The engine STOPPED by a fault (R105). -/
def State.engineStopped (s : State) (r : RestoreReason) : State :=
  s.setEngine { s.engine with run := .stopped, reason := some r, reads := 0, writes := 0 }

/-- RESTORE_FAULT is raised with the engine STOPPED (R105). -/
def State.faultRaised (s : State) (r : RestoreReason) (p : Nat) : State :=
  raiseEvent (s.engineStopped r) .restoreFault (.restore r) (some p)

theorem keeps_faultRaised (s : State) (r : RestoreReason) (p : Nat) : Keeps s (s.faultRaised r p) :=
  (keeps_setEngine s _).trans (keeps_raiseEvent _ _ _ _)

@[simp] theorem faultRaised_items (s : State) (r : RestoreReason) (p : Nat) :
    (s.faultRaised r p).txn = s.txn ∧ (s.faultRaised r p).journal = s.journal ∧
      (s.faultRaised r p).tracker = s.tracker ∧ (s.faultRaised r p).host = s.host ∧
      (s.faultRaised r p).command = s.command ∧ (s.faultRaised r p).engine = (s.engineStopped r).engine ∧
      (s.faultRaised r p).status.queue = (takeRaise s.status .restoreFault (.restore r) (some p)).queue ∧
      (s.faultRaised r p).status.dropped = (takeRaise s.status .restoreFault (.restore r) (some p)).dropped := by
  simp [State.faultRaised, State.engineStopped]

/-- The update of the command in flight carries the fault's event (R144). -/
theorem faultRaised_of_carried (hst : s.txn.op.isStartup = false) (hc : s.commandCarries = true) (r : RestoreReason)
    (p : Nat) : s.faultRaised r p =
      (s.engineStopped r).setStatus (takeRaise s.status .restoreFault (.restore r) (some p)) :=
  raiseEvent_of_carried (s := s.engineStopped r) hst hc _ _ _

theorem restoreFault_of_aborting (h : s.txn.op = .aborting) (r : RestoreReason) (p : Nat) : restoreFault s r p =
    releaseHeld (endExecution ((s.faultRaised r p).setTxn { s.txn with op := .faulted }) .restoreFault (.restore r)) := by
  simp [restoreFault, h, abortFaults, State.faultRaised, State.engineStopped]

theorem restoreFault_of_startup {ph : Phase} (h : s.txn.op = .startup ph) (r : RestoreReason) (p : Nat) :
    restoreFault s r p = startupFaults (s.faultRaised r p) := by
  simp [restoreFault, h, State.faultRaised, State.engineStopped]

theorem restoreFault_engine (s : State) (r : RestoreReason) (p : Nat) :
    (restoreFault s r p).engine = (s.engineStopped r).engine := by
  unfold restoreFault abortFaults startupFaults
  simp only
  split <;> simp [State.engineStopped]

theorem keeps_startupFaults (s : State) : Keeps s (startupFaults s) :=
  (keeps_setTxn s _).trans ((keeps_raiseEvent _ _ _ _).trans (keeps_requestSequence _ (by simp)))

end Sys2Proof.Machine

namespace Sys2Proof

open Machine

/-- Settles O33, by the verdict on the record and the operating state. -/
theorem restoreRecordReadPassesOrFaults : Obligations.RestoreRecordReadPassesOrFaults := by
  intro s m p h hread hcursor hreads bytes rest stopped
  have hnamed : CycleNamed .restoreRecordRead s := ⟨h.noReset, m, h.inFlight, h.claimant, hreads⟩
  refine ⟨_, exec_named hnamed h, ?_⟩
  rw [claimantGoesOn_lastRead hreads]
  have hengine : (s.recordKept m).engine = { s.engine with buffer := bytes, reads := s.engine.reads + 1 } := by
    simp [State.recordKept, engineKeeps, cycleByte_of_read hread, bytes]
  have hkept := workKept_recordKept s m
  have haround := surroundings_recordKept s m
  have hverify : verifyRecord (s.recordKept m) bytes p = verifyRecord s bytes p :=
    verifyRecord_congr (by simp [State.recordKept]) haround.strap (by rw [hengine]) bytes p
  obtain ⟨hpasses, hfaults⟩ := recordRead_cases (s := s.recordKept m) (bytes := bytes) (p := p) (by rw [hengine])
    (by rw [hengine, ← hcursor])
  rw [hverify] at hpasses hfaults
  have hrest : ∀ v : State, v = s.recordKept m → v.txn = s.txn ∧ v.journal = s.journal ∧ v.tracker = s.tracker ∧
      v.host = s.host ∧ v.port = { s.port with inFlight := none } ∧ v.control = s.control ∧ v.status = s.status ∧
      v.config = s.config ∧ v.command = s.command := by
    rintro v rfl
    refine ⟨?_, ?_, ?_, ?_, ?_, ?_, ?_, ?_, ?_⟩ <;> simp [State.recordKept, landCycle_port]
  obtain ⟨htxn, hjournal, htracker, hhost, hport, hcontrol, hstatus, hconfig, hcommand⟩ := hrest _ rfl
  generalize s.recordKept m = w at *
  have hended : ∀ {t}, Keeps w t → t.journal = w.journal → t.tracker = w.tracker → rest t := fun ht hj htr =>
    ⟨(hkept.trans ht.kept).workFrame h.canon, hj.trans hjournal, htr.trans htracker,
      (haround.trans ht.around).decoder, (haround.trans ht.around).loaded⟩
  refine ⟨fun hv => ?_, fun r hv => ?_⟩
  · have ht := (leaves_engineGoesOn w).settle
    have hkeeps : Keeps w (settle (engineGoesOn w)) := (keeps_setEngine w _).trans (ht.keeps (by simp))
    have hw : w.warning = s.warning := haround.warning
    rw [hpasses hv]
    refine ⟨hended hkeeps ht.journal ht.tracker, ht.engine.trans ?_, fun hx => ?_, ht.txn.trans htxn,
      ht.queue.trans (by rw [← hstatus]; rfl), ht.sequences.trans ?_⟩
    · rw [State.setEngine_engine, hengine, hw]
    · exact engineGoesOn_claims (hw.trans hx) (by rw [hengine, hcursor]; rfl)
    · simp [State.sequences, hcontrol]
  · have hfaulted := keeps_faultRaised w r p
    have hstops : (w.engineStopped r).engine = stopped r := by
      rw [State.engineStopped, State.setEngine_engine, hengine]
    rw [hfaults r hv]
    refine ⟨by rw [settle_engine, restoreFault_engine, hstops], fun cmd q hop hflight => ?_, fun hop => ?_⟩
    · have hcarried : Sequence.update .command ∉ s.sequences → w.faultRaised r p =
          (w.engineStopped r).setStatus (takeRaise w.status .restoreFault (.restore r) (some p)) := fun hno => by
        refine faultRaised_of_carried (by rw [htxn, hop]; rfl) ?_ r p
        rw [commandCarries_iff, hcommand, hcontrol, hflight]
        exact ⟨rfl, fun hx => hno (by simp [State.sequences, hx.1])⟩
      obtain ⟨-, ejournal, etracker, ehost, ecommand, eengine, equeue, edropped⟩ := faultRaised_items w r p
      have hclosed : Keeps w ((w.faultRaised r p).setTxn { w.txn with op := .faulted }) :=
        hfaulted.trans (keeps_setTxn _ _)
      rw [restoreFault_of_aborting (by rw [htxn, hop])]
      refine endsAndLifts_endExecution (cmd := cmd) (q := q)
        (u := (w.faultRaised r p).setTxn { w.txn with op := .faulted }) (ehost.trans hhost) (fun hno => ?_)
        ?_ ?_ ?_ (fun hno => ?_) (.inr rfl) _ _ fun t ht => ?_
      · rw [State.setTxn_port, hcarried hno]
        exact hport
      · rw [State.setTxn_journal, ejournal, hjournal]
      · rw [State.setTxn_config, hfaulted.config, hconfig]
      · rw [State.setTxn_command, ecommand, hcommand, hflight]
      · rw [State.setTxn_control, hcarried hno]
        exact fun hx => hno (by simp [State.sequences, ← hcontrol, show w.control.current = _ from hx])
      · refine ⟨hended (hclosed.trans ht.keeps) (ht.journal.trans ejournal) (ht.tracker.trans etracker),
          ht.engine.trans (eengine.trans hstops), ht.txn.trans (by rw [← htxn]; rfl),
          ht.queue.trans (equeue.trans (by rw [hstatus])), ht.dropped.trans (edropped.trans (by rw [hstatus])),
          by simp [ht.sequences], fun hno => ht.sequences.trans ?_⟩
        rw [State.setTxn_sequences, hcarried hno]
        simp [State.sequences, State.engineStopped, hcontrol]
    · obtain ⟨-, -, -, -, -, eengine, equeue, edropped⟩ := faultRaised_items w r p
      have hkeeps : Keeps w (settle (startupFaults (w.faultRaised r p))) :=
        (hfaulted.trans (keeps_startupFaults _)).trans (keeps_settle _)
      rw [restoreFault_of_startup (by rw [htxn, hop])]
      obtain ⟨hqueue, -⟩ := takeRaise_congr (equeue.trans (by rw [hstatus])) (edropped.trans (by rw [hstatus]))
        .startComplete (.start .fault) (some s.engine.count)
      refine ⟨hended hkeeps ?_ ?_, ?_, ?_, ?_⟩
      · simp [startupFaults]
      · simp [startupFaults]
      · simp [startupFaults, htxn]
      · have hcount : (w.engineStopped r).engine.count = s.engine.count := by rw [hstops]
        simpa [startupFaults, hcount] using hqueue
      · simp [startupFaults, requestSequence_sequences]

end Sys2Proof
end

section
/-! SUPPORT. The restore engine's payload writes (R58, R95, R96, R102): a step completed above the stopping position
or at it, where the run ends (R22, R38, R98, R178). -/

namespace Sys2Proof.Machine

variable {s t u : State} {m : MemCycle} {c : HostCycle}

/-! ### The held read of a restored granule (R58, R70) -/

theorem trackerPending_iff (l : List TrackerEntry) (g : Nat) :
    trackerPending l g = true ↔ ∃ e ∈ l, e.granule = g ∧ e.pending = true := by
  simp [trackerPending]

/-- A cycle that is not held for its granule is left alone. -/
theorem releaseGranule_of_other (h : ∀ c, s.host.cycle = some c → c.cause ≠ some .pending) :
    releaseGranule s = s := by
  unfold releaseGranule
  split
  case h_1 hc => exact absurd rfl (h _ hc)
  case h_2 => rfl

/-- A read held for its granule is held as long as a marked entry names it, and then passes. -/
theorem releaseGranule_of_pending {mode : WindowMode} {g i : Nat} (hc : s.host.cycle = some c)
    (hx : c.cause = some .pending) (hcls : c.cls = .window mode g i) :
    releaseGranule s = if trackerPending s.tracker g then s else claimPass s := by
  obtain ⟨a, w, d, k, x⟩ := c
  obtain rfl : k = _ := hcls
  obtain rfl : x = _ := hx
  simp only [releaseGranule, hc]

/-- The close of a step leaves a cycle that is held with another cause than MEMORY. -/
theorem settle_cycle_of_held (hc : s.host.cycle = some c) (hx : c.cause ≠ some .memory) :
    (settle s).host.cycle = some c := by
  rw [settle, startTimer_cycle, arbitrate_host_cycle s c hc hx, hc]

/-- The close of a step grants a cycle that waits with MEMORY, or leaves it waiting (R67). -/
theorem settle_cycle_of_memory (hc : s.host.cycle = some { c with cause := some .memory }) :
    (settle s).host.cycle = some { c with cause := none } ∨
      (settle s).host.cycle = some { c with cause := some .memory } := by
  rw [settle, startTimer_cycle]
  rcases arbitrate_cases s with ⟨he, -⟩ | ⟨-, -, he⟩ | ⟨-, -, he⟩ | ⟨-, -, he⟩ <;> rw [he]
  · exact .inr hc
  · rw [grantHost_host hc]
    exact .inl rfl
  · exact .inr (by simpa using hc)
  · exact .inr hc

/-! ### A step completed (R96) -/

/-- The entries left when a position is restored (R55). -/
def State.left (s : State) (p : Nat) : List TrackerEntry := s.tracker.filter (fun e => e.index != p)

/-- The state in which a step has completed at position `p` (R58, R96). -/
def State.stepped (s : State) (p : Nat) : State :=
  (releaseGranule (s.setTracker (s.left p))).setEngine
    { s.engine with lastLink := halfAt s.engine.buffer 6, count := s.engine.count + 1, reads := 0, writes := 0 }

theorem stepCompletes_eq {p : Nat} (h : s.engine.cursor = some p) : stepCompletes s =
    if p = s.engine.stop then runEnds (s.stepped p)
    else engineGoesOn ((s.stepped p).setEngine { (s.stepped p).engine with cursor := some (p - 1) }) := by
  simp only [stepCompletes, h, Option.getD_some, State.stepped, releaseGranule_engine, State.setTracker_engine]
  rfl

section
variable (s : State) (p : Nat)

@[simp] theorem stepped_txn : (s.stepped p).txn = s.txn := by simp [State.stepped]
@[simp] theorem stepped_journal : (s.stepped p).journal = s.journal := by simp [State.stepped]
@[simp] theorem stepped_tracker : (s.stepped p).tracker = s.left p := by simp [State.stepped]
@[simp] theorem stepped_status : (s.stepped p).status = s.status := by simp [State.stepped]
@[simp] theorem stepped_config : (s.stepped p).config = s.config := by simp [State.stepped]
@[simp] theorem stepped_sequences : (s.stepped p).sequences = s.sequences := by simp [State.stepped, State.sequences]

theorem stepped_engine : (s.stepped p).engine =
    { s.engine with lastLink := halfAt s.engine.buffer 6, count := s.engine.count + 1, reads := 0, writes := 0 } := rfl

theorem keeps_stepped : Keeps s (s.stepped p) := by
  refine ⟨⟨by simp [State.stepped], fun hc => ?_, by constructor <;> simp, by simp, by simp [State.stepped],
    by simp [State.stepped], by simp [State.stepped], by simp [State.stepped], by simp [State.stepped]⟩,
    by constructor <;> simp [State.stepped], by constructor <;> simp [State.stepped], by simp⟩
  rw [State.stepped, releaseGranule_of_other (by simp [hc])]
  rfl

end

/-- What a completed step does to a held cycle, after work that leaves the host port alone and the step's close. -/
theorem settle_host_of_stepped (s u : State) (c : HostCycle) {p : Nat} (hu : u.host = (s.stepped p).host) (hc : s.host.cycle = some c) :
    (∀ mode g i, c.cause = some .pending → c.cls = .window mode g i →
      ((∃ e ∈ s.left p, e.granule = g ∧ e.pending = true) → (settle u).host.cycle = some c) ∧
      ((∀ e ∈ s.left p, ¬(e.granule = g ∧ e.pending = true)) →
        (settle u).host.cycle = some { c with cause := none } ∨
        (settle u).host.cycle = some { c with cause := some .memory })) ∧
    (∀ x, c.cause = some x → x ≠ .pending → x ≠ .memory → (settle u).host.cycle = some c) := by
  refine ⟨fun mode g i hx hcls => ?_, fun x hx hp hm => ?_⟩
  · have hgo := releaseGranule_of_pending (s := s.setTracker (s.left p)) hc hx hcls
    refine ⟨fun hpending => ?_, fun hnone => ?_⟩
    · rw [State.setTracker_tracker, if_pos ((trackerPending_iff _ _).mpr hpending)] at hgo
      refine settle_cycle_of_held ?_ (by simp [hx])
      rw [hu, State.stepped, hgo]
      exact hc
    · rw [State.setTracker_tracker, if_neg (fun ht => by
        obtain ⟨e, he, hge⟩ := (trackerPending_iff _ _).mp ht
        exact hnone e he hge)] at hgo
      refine settle_cycle_of_memory ?_
      rw [hu, State.stepped, hgo]
      simp [claimPass, hc, State.claimHost]
  · refine settle_cycle_of_held ?_ (by simp [hx, hm])
    rw [hu, State.stepped, releaseGranule_of_other fun c' hc' => ?_]
    · exact hc
    · obtain rfl : c = c' := by simpa [hc] using hc'
      simp [hx, hp]

theorem claimantGoesOn_lastWrite (hreads : s.geometry.granule + 10 ≤ s.engine.reads)
    (hwrites : s.engine.writes + 1 = s.geometry.granule) (m : MemCycle) (b : Byte) :
    claimantGoesOn (landCycle s m) .engine b = stepCompletes (landCycle s m) := by
  have hlast : engineAtLastWrite (landCycle s m) = true := by
    simp [engineAtLastWrite, recordSize, hreads, hwrites]
  have hdone : ¬s.engine.reads < recordSize s.geometry.granule := by simp [recordSize]; omega
  simp [claimantGoesOn, engineCycleEnds, hlast, hdone]

/-! ### The end of a run (R98) -/

/-- What follows a run, by the operating state. -/
theorem runEnds_cases (s : State) :
    (s.txn.op = .aborting → runEnds s =
      if 2 ≤ s.engine.target.level then truncateJournal s.runEnded else requestAdvance s.runEnded) ∧
    ∀ ph, s.txn.op = .startup ph → runEnds s = enterClosing s.runEnded := by
  refine ⟨fun h => ?_, fun ph h => ?_⟩
  · simp only [runEnds, State.setEngine_txn, h]
    rfl
  · simp only [runEnds, State.setEngine_txn, h]
    rfl

/-- With a record restored an inner abort still writes its void mark (R22, R23). -/
theorem truncateJournal_of_count (h : s.engine.count ≠ 0) : truncateJournal s =
    requestSequence (s.setJournal { s.journal with n := s.engine.stop, link := s.engine.lastLink }) .voidMark :=
  if_neg h

/-- A run's end with a record restored keeps the host port, the tracker and the engine as it becomes. -/
theorem runEnds_keeps (hcount : s.engine.count ≠ 0) : Keeps s (runEnds s) ∧ (runEnds s).host = s.host ∧
    (runEnds s).tracker = s.tracker ∧ (runEnds s).engine = { s.engine with run := .idle, cursor := none } := by
  unfold runEnds
  simp only
  generalize hv : s.setEngine { s.engine with run := .idle, cursor := none } = v
  have hkeeps : Keeps s v := hv ▸ keeps_setEngine s _
  have hhost : v.host = s.host := by rw [← hv]; rfl
  have htracker : v.tracker = s.tracker := by rw [← hv]; rfl
  have hengine : v.engine = { s.engine with run := .idle, cursor := none } := by rw [← hv]; rfl
  split
  · split
    · rw [truncateJournal_of_count (by rw [hengine]; exact hcount)]
      refine ⟨hkeeps.trans ((keeps_setJournal v ?_).trans (keeps_requestSequence _ ?_)), by simp [hhost],
        by simp [htracker], by simp [hengine]⟩
      · rfl
      · simp
    · exact ⟨hkeeps.trans (keeps_requestAdvance v), by simp [hhost], by simp [htracker], by simp [hengine]⟩
  · exact ⟨hkeeps.trans (keeps_enterClosing v), by simp [hhost], by simp [htracker], by simp [hengine]⟩
  all_goals exact ⟨hkeeps, hhost, htracker, hengine⟩

end Sys2Proof.Machine

namespace Sys2Proof

open Machine

/-- Settles O34: the completed step, then the engine's other boundaries. -/
theorem restoreStepMovesDown : Obligations.RestoreStepMovesDown := by
  refine ⟨?_, ?_⟩
  · intro s m p h hcursor hstop hreads hwrites left
    have hnamed : CycleNamed .restoreStepComplete s := ⟨h.noReset, m, h.inFlight, h.claimant, hreads, hwrites⟩
    refine ⟨_, exec_named hnamed h, ?_⟩
    have hland : (landCycle s m).engine.cursor = some p := by simp [hcursor]
    rw [claimantGoesOn_lastWrite hreads hwrites, stepCompletes_eq hland, if_neg (by simp; omega)]
    have hstepped := keeps_stepped (landCycle s m) p
    have hleft : (landCycle s m).left p = left := by simp [State.left, left]
    have hengine := stepped_engine (landCycle s m) p
    have hrest := fun u c => settle_host_of_stepped (landCycle s m) u c (p := p)
    have htxn := stepped_txn (landCycle s m) p
    have hjournal := stepped_journal (landCycle s m) p
    have htracker := stepped_tracker (landCycle s m) p
    have hsequences := stepped_sequences (landCycle s m) p
    have hstatus := stepped_status (landCycle s m) p
    generalize (landCycle s m).stepped p = v at *
    let w := v.setEngine { v.engine with cursor := some (p - 1) }
    have hw : Keeps (landCycle s m) w := hstepped.trans (keeps_setEngine v _)
    have ht := (leaves_engineGoesOn w).settle
    have hwarn : w.warning = s.warning := by simpa using hw.kept.warning
    have hkeeps : Keeps (landCycle s m) (settle (engineGoesOn w)) :=
      hw.trans ((keeps_setEngine w _).trans (ht.keeps (by simp)))
    have hframe := hkeeps.kept.workFrame h.canon
    refine ⟨hframe.memory, ht.tracker.trans (htracker.trans hleft), ht.engine.trans ?_, fun hx => ?_,
      ht.txn.trans (htxn.trans (by simp)), ht.journal.trans (hjournal.trans (by simp)),
      ht.sequences.trans ?_, ⟨ht.queue.trans (by simp [w, hstatus]), ht.dropped.trans (by simp [w, hstatus]),
        hframe.counters.1, hframe.counters.2, hframe.counters.3⟩,
      (sameCommand_landCycle s m).trans hkeeps.command, (surroundings_landCycle s m).trans hkeeps.around,
      hframe.host, fun c mode g i hc hx hcls => ?_⟩
    · rw [hwarn]
      simp only [State.setEngine_engine, w, hengine, landCycle_engine]
    · exact engineGoesOn_claims (hwarn.trans hx) rfl
    · simp [w, hsequences]
    · rw [← hleft]
      exact (hrest (engineGoesOn w) c (by simp [w]) (by simpa using hc)).1 mode g i hx hcls
  · intro s m h R b hwhere
    refine ⟨_, exec_memoryCycleComplete_due h, ?_⟩
    let e : Engine := if s.engine.reads < R
      then { s.engine with buffer := s.engine.buffer.take s.engine.reads ++ [b], reads := s.engine.reads + 1 }
      else { s.engine with writes := s.engine.writes + 1 }
    have hgo : claimantGoesOn (landCycle s m) .engine (cycleByte s m) = engineGoesOn ((landCycle s m).setEngine e) := by
      have hreads : (landCycle s m).engine.reads < recordSize (landCycle s m).geometry.granule ↔ s.engine.reads < R := by
        simp [R, recordSize]
      have hlastRead : s.engine.reads < R → engineAtLastRead (landCycle s m) = false := fun hr => by
        have : s.engine.reads + 1 ≠ R := by omega
        simpa [engineAtLastRead, recordSize, R] using this
      have hlastWrite : ¬s.engine.reads < R → engineAtLastWrite (landCycle s m) = false := fun hr => by
        obtain ⟨-, hne⟩ := hwhere.resolve_left (by omega)
        simp [engineAtLastWrite, hne]
      simp only [claimantGoesOn, engineCycleEnds, hreads]
      by_cases hr : s.engine.reads < R
      · rw [if_pos hr, hlastRead hr, if_neg (by simp)]
        simp [engineKeeps, e, hr, b, cycleByte_eq]
      · rw [if_neg hr, hlastWrite hr, if_neg (by simp)]
        simp [e, hr]
    have hw : Keeps (landCycle s m) ((landCycle s m).setEngine e) := keeps_setEngine _ _
    have ht := (leaves_engineGoesOn ((landCycle s m).setEngine e)).settle
    have hkeeps : Keeps (landCycle s m) (settle (engineGoesOn ((landCycle s m).setEngine e))) :=
      hw.trans ((keeps_setEngine _ _).trans (ht.keeps (by simp)))
    have hframe := hkeeps.kept.workFrame h.canon
    rw [hgo]
    refine ⟨hframe, ht.txn.trans (by simp), ht.journal.trans (by simp), ht.tracker.trans (by simp),
      ht.sequences.trans (by simp), ⟨ht.queue.trans (by simp), ht.dropped.trans (by simp),
        hframe.counters.1, hframe.counters.2, hframe.counters.3⟩,
      (sameCommand_landCycle s m).trans hkeeps.command, (surroundings_landCycle s m).trans hkeeps.around,
      fun hr => ht.engine.trans ?_, fun hr => ht.engine.trans ?_, fun hx hc => engineGoesOn_claims (by simpa using hx) ?_⟩
    · simp [e, hr]
    · have : ¬s.engine.reads < R := by omega
      simp [e, this]
    · simp only [State.setEngine_engine, e]
      split <;> exact hc

/-- Settles O35, by the operating state the run's end returns to. -/
theorem lastRestoreStepEndsTheRun : Obligations.LastRestoreStepEndsTheRun := by
  intro s m p k h hcursor hstop hreads hwrites hloaded hadopting left
  have hnamed : CycleNamed .restoreStepComplete s := ⟨h.noReset, m, h.inFlight, h.claimant, hreads, hwrites⟩
  refine ⟨_, exec_named hnamed h, ?_⟩
  have hland : (landCycle s m).engine.cursor = some p := by simp [hcursor]
  rw [claimantGoesOn_lastWrite hreads hwrites, stepCompletes_eq hland, if_pos (by simp [hstop])]
  have hstepped := keeps_stepped (landCycle s m) p
  have hleft : (landCycle s m).left p = left := by simp [State.left, left]
  have hengine := stepped_engine (landCycle s m) p
  have hrest := fun u c => settle_host_of_stepped (landCycle s m) u c (p := p)
  have htxn := (stepped_txn (landCycle s m) p).trans (landCycle_txn s m)
  have hjournal := (stepped_journal (landCycle s m) p).trans (landCycle_journal s m)
  have htracker := stepped_tracker (landCycle s m) p
  have hsequences := (stepped_sequences (landCycle s m) p).trans (sequences_landCycle s m)
  have hstatus := (stepped_status (landCycle s m) p).trans (landCycle_status s m)
  have hconfig := (stepped_config (landCycle s m) p).trans (landCycle_config s m)
  rw [landCycle_engine] at hengine
  generalize (landCycle s m).stepped p = v at *
  obtain ⟨hends, hhost, htracker', hengine'⟩ := runEnds_keeps (s := v) (by simp [hengine])
  obtain ⟨haborting, hstartup⟩ := runEnds_cases v
  have hkeeps : Keeps (landCycle s m) (settle (runEnds v)) := hstepped.trans (hends.trans (keeps_settle _))
  have hgeometry : advanceGeometry v.runEnded = configGeometry k := by
    simp [advanceGeometry, State.runEnded, hconfig, hadopting, hloaded]
  have hlevel : v.engine.target = s.engine.target := by rw [hengine]
  refine ⟨hkeeps.kept.workFrame h.canon, by rw [settle_tracker, htracker', htracker, hleft],
    by rw [settle_engine, hengine', hengine], (sameCommand_landCycle s m).trans hkeeps.command,
    (surroundings_landCycle s m).trans hkeeps.around, fun c mode g i hc hx hcls => ?_, fun c x hc hx hp hm => ?_,
    fun hop hl => ?_, fun hop hl => ?_, fun hop hfound x hslot => ?_⟩
  · rw [← hleft]
    exact (hrest _ c hhost (by simpa using hc)).1 mode g i hx hcls
  · exact (hrest _ c hhost (by simpa using hc)).2 x hx hp hm
  · have ht := (leaves_requestSequence (v.runEnded.setJournal { v.runEnded.journal with
      n := v.runEnded.engine.stop, link := v.runEnded.engine.lastLink }) .voidMark).settle
    rw [haborting (by rw [htxn, hop]), hlevel, if_pos hl,
      truncateJournal_of_count (by simp [State.runEnded, hengine])]
    refine ⟨ht.journal.trans ?_, ht.sequences.trans ?_, ht.txn.trans htxn, ht.queue.trans ?_⟩
    · simp [State.runEnded, hengine, hjournal, hstop]
    · simp [State.runEnded, hsequences]
    · simp [State.runEnded, hstatus]
  · have ht := (leaves_requestAdvance (s := v.runEnded) (by simp [State.runEnded, htxn, hop, OpState.isStartup])
      hgeometry).settle
    rw [haborting (by rw [htxn, hop]), hlevel, if_neg (by omega)]
    refine ⟨ht.journal.trans hjournal, ht.txn.trans htxn, ht.queue.trans ?_, ht.sequences.trans ?_⟩
    · simp [State.runEnded, hstatus]
    · simp [State.runEnded, hsequences, hjournal]
  · have ht := (leaves_enterClosing_header (s := v.runEnded)
      (by simp [headerNeeded, State.runEnded, htxn, hfound]) hgeometry).settle
    rw [hstartup _ (by rw [htxn, hop])]
    refine ⟨ht.journal.trans hjournal, ht.queue.trans ?_, ht.txn.trans ?_, ht.sequences.trans ?_⟩
    · simp [State.runEnded, hstatus]
    · simp [State.runEnded, htxn]
    · simp [State.runEnded, hsequences, hjournal, hslot, headerAfter, nextHeader, configGeometry]

end Sys2Proof
end

section
/-! SUPPORT. What a status update captures (R128, R144 to R148, R191, R192), and what its last cycle ends (R128, R140,
R180). -/

namespace Sys2Proof.Machine

variable {s t u : State} {m : MemCycle}

/-! ### The captures of an update (R145, assumption 17) -/

/-- The status unit when the grant of an update's cycle has captured what that cycle needs. -/
def State.captured (s : State) (k : UpdateKind) : Status :=
  let i := s.control.done
  let r := s.status.snapReads
  { s.status with
    body := if i = 0 then liveBody s k else s.status.body
    liveBegun := if i = 0 then true else s.status.liveBegun
    number := if i = r then s.status.snapshot.getD 0 + 1 else s.status.number
    area := if i = r + 64 then areaBytes s.status else s.status.area
    areaBegun := if i = r + 64 then true else s.status.areaBegun
    owed := if i = r + 64 then false else s.status.owed
    record := if i = r + 168 then resultRecord s else s.status.record }

theorem captureUpdate_eq (s : State) (k : UpdateKind) : captureUpdate s k =
    (s.setStatus (s.captured k)).setCommand
      { s.command with overrun := if s.control.done = s.status.snapReads + 168 then false else s.command.overrun } := by
  have hlive : captureLive s k s.control.done = s.setStatus { s.status with
      body := if s.control.done = 0 then liveBody s k else s.status.body
      liveBegun := if s.control.done = 0 then true else s.status.liveBegun } := by
    unfold captureLive
    split <;> rfl
  have hnumber : ∀ v : State, captureNumber v s.control.done = v.setStatus { v.status with
      number := if s.control.done = v.status.snapReads then v.status.snapshot.getD 0 + 1 else v.status.number } :=
    fun v => by
      unfold captureNumber
      split <;> rfl
  have harea : ∀ v : State, captureArea v s.control.done = v.setStatus { v.status with
      area := if s.control.done = v.status.snapReads + 64 then areaBytes v.status else v.status.area
      areaBegun := if s.control.done = v.status.snapReads + 64 then true else v.status.areaBegun
      owed := if s.control.done = v.status.snapReads + 64 then false else v.status.owed } := fun v => by
    unfold captureArea
    split <;> rfl
  have hresult : ∀ v : State, captureResult v s.control.done = (v.setStatus { v.status with
      record := if s.control.done = v.status.snapReads + 168 then resultRecord v else v.status.record }).setCommand
      { v.command with overrun := if s.control.done = v.status.snapReads + 168 then false else v.command.overrun } :=
    fun v => by
      unfold captureResult
      split <;> rfl
  rw [captureUpdate, hlive, hnumber, harea, hresult]
  by_cases h : s.control.done = s.status.snapReads + 64
  · simp [State.captured, h]
  · simp [State.captured, h, resultRecord]

/-! ### The flag bytes of the live-state record (R25, Table 11-7) -/

theorem flagBits_succ (f : Frame → Bool) (l : List Frame) (i : Nat) : flagBits f l (i + 1) = 2 * flagBits f l i := by
  induction l generalizing i with
  | nil => rfl
  | cons x l ih =>
    rw [flagBits, flagBits, ih (i + 1), Nat.mul_add]
    unfold flagBit
    split <;> simp [Nat.pow_succ, Nat.mul_comm]

/-- A frame's flag is the bit of its depth. -/
theorem testBit_flagBits (f : Frame → Bool) (l : List Frame) (d : Nat) :
    (flagBits f l 0).testBit d = (l[d]?).any f := by
  induction l generalizing d with
  | nil => simp [flagBits]
  | cons x l ih =>
    rw [flagBits, flagBits_succ]
    cases d with
    | zero => cases hx : f x <;> simp [flagBit, hx, Nat.testBit_zero, Nat.add_mod]
    | succ d =>
      rw [Nat.testBit_succ, List.getElem?_cons_succ, ← ih d]
      cases hx : f x <;> simp [flagBit] 
      congr 1
      omega

theorem byteOf_flagBits (f : Frame → Bool) (l : List Frame) {b : Byte}
    (h : ∀ d, d < 8 → b.getLsbD d = (l[d]?).any f) : byteOf (flagBits f l 0) = b := by
  refine BitVec.eq_of_getLsbD_eq fun d hd => ?_
  rw [h d hd, byteOf, BitVec.getLsbD_ofNat, testBit_flagBits]
  simp [hd]

/-! ### The records captured (Tables 11-6, 11-7, 11-11 and 11-12) -/

theorem cursorField_eq (c : Option Nat) :
    cursorField c = match c with | none => [0xFF, 0xFF] | some p => [byteOf p, byteOf (p / 256)] := by
  cases c <;> simp [cursorField, halfOf_eq]

theorem entryBytes_length (e : EventEntry) : (entryBytes e).length = 24 := by
  simp [entryBytes, halfBytes, longBytes, zeros]

/-- Up to four entries and the empty places after them (R148). -/
theorem entryPlaces_eq {q : List EventEntry} (h : q.length ≤ 4) :
    entryPlaces q = (q.map entryBytes).flatten ++ zeros (96 - 24 * q.length) := by
  have hlen : (q.map entryBytes).flatten.length = 24 * q.length := by
    simp [List.length_flatten, Function.comp_def, entryBytes_length, Nat.mul_comm]
  rw [entryPlaces, List.take_append, List.take_of_length_le (by omega), hlen]
  rw [zeros, List.take_replicate, Nat.min_eq_left (by omega)]
  rfl

/-- The operating state a live-state record reports is one of those with a code (Table 11-10). -/
theorem code_of_mem {op : OpState} {code : Byte}
    (h : (op, code) ∈ [(OpState.ready, (0x01 : Byte)), (.setup, 0x02), (.committing, 0x03), (.aborting, 0x04),
      (.faulted, 0x05), (.unconfigured, 0x06), (.startup .scanning, 0x11), (.startup .restoring, 0x12),
      (.startup .closing, 0x13)]) : op.code = code := by
  simp only [List.mem_cons, Prod.mk.injEq, List.not_mem_nil, or_false] at h
  obtain ⟨rfl, rfl⟩ | ⟨rfl, rfl⟩ | ⟨rfl, rfl⟩ | ⟨rfl, rfl⟩ | ⟨rfl, rfl⟩ | ⟨rfl, rfl⟩ | ⟨rfl, rfl⟩ | ⟨rfl, rfl⟩ |
    ⟨rfl, rfl⟩ := h <;> rfl

/-! ### What the cycles of an update keep (R140, R146) -/

/-- The snapshot number after the cycle in flight of an update, which hands over a byte (R146). -/
def State.numberAfter (s : State) (b : Byte) : Option Long :=
  if s.control.done < s.status.snapReads then
    if s.control.done + 1 = s.status.snapReads then some (longAt (s.control.buffer ++ [b]) 0) else s.status.snapshot
  else if s.control.done = s.status.snapReads then some s.status.number else s.status.snapshot

/-- ATTN after the cycle in flight of an update (R140). -/
def State.attentionNext (s : State) : Bool :=
  if s.control.done = s.status.snapReads + 167 then Machine.byteAt s.status.area 96 != 0 else s.status.attention

theorem updateCycleEffects_eq (s : State) (b : Byte) : updateCycleEffects s b =
    (s.setControl { s.control with
      buffer := if s.control.done < s.status.snapReads then s.control.buffer ++ [b] else s.control.buffer }).setStatus
      { s.status with snapshot := s.numberAfter b, attention := s.attentionNext } := by
  have hattention : ∀ v : State, attentionAfter v = v.setStatus { v.status with attention := v.attentionNext } :=
    fun v => by
      unfold attentionAfter State.attentionNext
      split <;> rfl
  have hsnapshot : snapshotAfter s b = (s.setControl { s.control with
      buffer := if s.control.done < s.status.snapReads then s.control.buffer ++ [b] else s.control.buffer }).setStatus
      { s.status with snapshot := s.numberAfter b } := by
    unfold snapshotAfter State.numberAfter
    by_cases hread : s.control.done < s.status.snapReads
    · by_cases hlast : s.control.done + 1 = s.status.snapReads
      · simp only [if_pos hread, if_pos hlast]
        exact if_pos hlast
      · simp only [if_pos hread, if_neg hlast]
        exact if_neg hlast
    · by_cases hfirst : s.control.done = s.status.snapReads
      · simp only [if_neg hread, if_pos hfirst]
        rfl
      · simp only [if_neg hread, if_neg hfirst]
        rfl
  rw [updateCycleEffects, hattention, hsnapshot]
  rfl

theorem freed_status_update (s : State) (m : MemCycle) (kind : UpdateKind) : (s.freed m (.update kind)).status =
    { s.status with snapshot := s.numberAfter (cycleByte s m), attention := s.attentionNext } := by
  simp [State.freed, sequenceKeeps, updateCycleEffects_eq, State.numberAfter, State.attentionNext]

/-- The busy flag and the command in flight are no items of the work. -/
theorem workKept_setCommand (s : State) {x : CommandPort} (hseq : x.seq = s.command.seq)
    (hstrobe : x.strobe = s.command.strobe) : WorkKept s (s.setCommand x) :=
  ⟨rfl, fun _ => rfl, ⟨rfl, rfl, rfl⟩, rfl, hseq, hstrobe, rfl, rfl, rfl⟩

end Sys2Proof.Machine

namespace Sys2Proof

open Machine

/-- Settles O44: the codes, the captures at the grant of each cycle, and the last cycles of the four kinds. -/
theorem updatesEndWhatTheyReport : Obligations.UpdatesEndWhatTheyReport := by
  refine ⟨?_, ?_, ?_⟩
  · refine ⟨by decide, by decide, by decide, by decide, by decide, by decide, by decide, rfl, ?_, ?_, ?_, ?_, ?_, ?_, ?_⟩ <;>
      exact fun _ => rfl
  · intro s kind u st i two half four flag reported entry
    have hu : u = (s.setStatus (s.captured kind)).setCommand { s.command with
        overrun := if i = st.snapReads + 168 then false else s.command.overrun } := captureUpdate_eq s kind
    have hreported : reported = reportedState s kind := by
      simp only [reported, reportedState]
      cases kind <;> cases hend : s.txn.endState with
      | none => rfl
      | some e => cases e <;> rfl
    clear_value u
    subst hu
    refine ⟨rfl, rfl, fun hi => ⟨if_pos hi, fun code short spill hdepth hcode hshort hspill => ?_⟩,
      fun hi => ⟨if_neg hi, if_neg hi⟩, fun hi n hn => ?_, fun hi => if_neg hi,
      fun hi => ⟨if_pos hi, if_pos hi, fun hq => ?_⟩, fun hi => ⟨if_neg hi, if_neg hi, if_neg hi⟩,
      fun hi => ⟨?_, fun r hr => ?_⟩, fun hi => ⟨?_, if_neg hi⟩⟩
    · have hbody : (s.captured kind).body = liveBody s kind := if_pos hi
      rw [State.setCommand_status, State.setStatus_status, hbody, liveBody, ← hreported, code_of_mem hcode,
        State.shortFlags, State.spillFlags, byteOf_flagBits _ _ hshort, byteOf_flagBits _ _ hspill, cursorField_eq]
      simp only [halfOf_eq, loadedSerial]
      cases s.engine.cursor <;> cases s.config.loaded <;> rfl
    · have hnumber : (s.captured kind).number = (s.status.snapshot.getD 0) + 1 := if_pos hi
      rw [State.setCommand_status, State.setStatus_status, hnumber, hn]
      rfl
    · have harea : (s.captured kind).area = areaBytes s.status := if_pos hi
      rw [State.setCommand_status, State.setStatus_status, harea, areaBytes, entryPlaces_eq hq]
      rfl
    · rw [State.setCommand_command, if_pos hi]
    · have hrecord : (s.captured kind).record = resultRecord s := if_pos hi
      rw [State.setCommand_status, State.setStatus_status, hrecord, resultRecord, hr]
      simp only [resultBytes, halfOf_eq]
      rfl
    · rw [State.setCommand_command, if_neg hi]
  · intro s m
    refine ⟨fun ph e h hlast hop hend => ?_, fun h hlast => ?_, fun kind h hlast => ?_⟩
    · have hnamed : CycleNamed .startupEnd s :=
        ⟨h.cycle.noReset, m, h.cycle.inFlight, h.cycle.claimant, h.current, hlast⟩
      have hstatus := freed_status_update s m .final
      have hconfig := freed_config s m (.update .final) (by simp)
      have haround := surroundings_freed s m (.update .final)
      have hkept := workKept_freed s m (.update .final)
      refine ⟨settle (startupEnds (s.freed m (.update .final))),
        exec_lastOfSequence hnamed h (by simp) (by simp [sequenceAtLast, updateLength, UpdateKind.length, hlast]), ?_⟩
      have hgo : startupEnds (s.freed m (.update .final)) = ((s.freed m (.update .final)).setTxn
          { s.txn with op := e.op }).setCommand { s.command with busy := false } := by
        simp [startupEnds, hop, hend]
      have hattn : s.attentionNext = (byteAt s.status.area 96 != 0) := if_pos (by omega)
      rw [hgo]
      have hended := (keeps_setTxn (s.freed m (.update .final)) { s.txn with op := e.op }).kept.trans
        (workKept_setCommand _ (x := { s.command with busy := false }) (by simp) (by simp))
      refine ⟨(hkept.trans (hended.trans (workKept_settle _))).workFrame h.cycle.canon, ?_, ?_, by simp [State.cbusy],
        by simp, by simp [State.attn, hstatus, hattn], by simp [hstatus], by simp, by simp, by simp, by simp [hconfig],
        haround.trans (by constructor <;> simp), by simp⟩
      · cases e <;> simp [EndState.op]
      · cases e <;> simp [State.rdy, EndState.op, OpState.isStartup]
    · have hnamed : CycleNamed .statusUpdateComplete s :=
        ⟨h.cycle.noReset, m, h.cycle.inFlight, h.cycle.claimant, h.current, hlast⟩
      have hstatus := freed_status_update s m .command
      have hconfig := freed_config s m (.update .command) (by simp)
      have haround := surroundings_freed s m (.update .command)
      have hkept := workKept_freed s m (.update .command)
      have hattn : s.attentionNext = s.status.attention := if_neg (by omega)
      have hended := (workKept_setCommand (s.freed m (.update .command))
        (x := { s.command with busy := false, inFlight := none }) (by simp) (by simp)).trans
        (keeps_setTxn _ { s.txn with stage := .idle }).kept
      refine ⟨settle (((s.freed m (.update .command)).setCommand
          { s.command with busy := false, inFlight := none }).setTxn { s.txn with stage := .idle }), ?_, ?_⟩
      · rw [exec_lastOfSequence hnamed h (by simp) (by simp [sequenceAtLast, updateLength, UpdateKind.length, hlast])]
        simp [sequenceEnds, updateEnds, commandUpdateEnds]
      · exact ⟨(hkept.trans (hended.trans (workKept_settle _))).workFrame h.cycle.canon, by simp [State.cbusy], by simp,
          by simp, by simp [State.attn, hstatus, hattn], by simp [hstatus], by simp, by simp, by simp, by simp [hconfig],
          haround.trans (by constructor <;> simp), by simp⟩
    · have hstatus := freed_status_update s m kind
      have hconfig := freed_config s m (.update kind) (by simp)
      have haround := surroundings_freed s m (.update kind)
      have hkept := workKept_freed s m (.update kind)
      have hcommand := sameCommand_freed s m (.update kind)
      have hat : sequenceAtLast s (.update kind) = true := by
        rcases hlast with ⟨rfl, hl⟩ | ⟨rfl, hl⟩ <;> simp [sequenceAtLast, updateLength, UpdateKind.length, hl]
      have hsnapshot : s.numberAfter (cycleByte s m) = s.status.snapshot := by
        rw [State.numberAfter, if_neg (by omega), if_neg (by omega)]
      have hattn : s.attentionNext = if kind = .raise then byteAt s.status.area 96 != 0 else s.status.attention := by
        rcases hlast with ⟨rfl, hl⟩ | ⟨rfl, hl⟩
        · exact if_pos (by omega)
        · exact if_neg (by omega)
      have hends : ∀ l, sequenceEnds (s.freed m (.update kind)) l (.update kind) = s.freed m (.update kind) := fun l => by
        rcases hlast with ⟨rfl, hl⟩ | ⟨rfl, hl⟩ <;> rfl
      refine ⟨settle (s.freed m (.update kind)), ?_, ?_⟩
      · rw [exec_memoryCycleComplete_due h.cycle, claimantGoesOn_last (by simpa using h.current) (by simp)
          (by rwa [sequenceAtLast_landCycle])]
        exact congrArg (fun v => Host.Outcome.next (settle v)) (hends _)
      · exact ⟨(hkept.trans (workKept_settle _)).workFrame h.cycle.canon, by simp, by simp [State.attn, hstatus, hattn],
          hcommand.trans (sameCommand_settle _), by simp [hstatus, hsnapshot], by simp [hstatus], by simp, by simp,
          by simp, by simp [hconfig], haround.trans (surroundings_settle _), by simp⟩

end Sys2Proof
end

section
/-! SUPPORT. The control unit's sequences: what a beginning sets (R114, R146, R155, R175), and what a memory cycle that
is not the last of its sequence keeps (R112, R113, R140). -/

namespace Sys2Proof.Machine

variable {s t u : State} {m : MemCycle} {k : Sequence}

/-! ### A sequence begins (R114) -/

/-- What the beginning itself sets, before the close of the step. -/
theorem begun_beginSequence (s : State) (k : Sequence) : Begun s (beginSequence s k) k := by
  obtain ⟨hcurrent, hdone, -, hclaim⟩ := beginSequence_spec s k
  have hbuffer : (beginSequence s k).control.buffer = [] := by cases k <;> rfl
  refine ⟨hcurrent, ⟨hdone, hbuffer⟩, .inl hclaim, ?_, ?_, ?_, ?_, ?_, ?_⟩
  · rintro kind rfl
    refine ⟨?_, rfl, rfl, rfl⟩
    show (if s.status.snapshot.isNone then 4 else 0) = _
    simp
  · intro hk
    cases k with
    | update kind => exact absurd rfl (hk kind)
    | _ => rfl
  · rintro x (rfl | rfl) <;> rfl
  · intro hk
    cases k with
    | configRead x => exact absurd rfl (hk x).1
    | configWrite x => exact absurd rfl (hk x).2
    | _ => rfl
  · rintro rfl
    exact ⟨rfl, rfl⟩
  · intro hk
    cases k with
    | scan => exact absurd rfl hk
    | _ => exact ⟨rfl, rfl⟩

/-- A grant captures nothing but for an update (R145). -/
theorem captureControl_of_noUpdate (h : ∀ kind, s.control.current ≠ some (.update kind)) : captureControl s = s := by
  unfold captureControl
  split
  case h_1 kind hk => exact absurd hk (h kind)
  case h_2 => rfl

theorem settle_status_of_noUpdate (h : ∀ kind, s.control.current ≠ some (.update kind)) :
    (settle s).status = s.status := by
  rw [settle_status]
  rcases arbitrate_cases s with ⟨he, -⟩ | ⟨-, -, he⟩ | ⟨-, -, he⟩ | ⟨-, -, he⟩ <;> rw [he]
  · simp
  · rw [grantControl, captureControl_of_noUpdate h]
    rfl
  · rfl

/-- A beginning at a claim that stands: the close of the step leaves it, or grants the first cycle and captures its
live-state record (R145). -/
theorem Begun.settle (h : Begun s u k) (hclaim : u.port.claimControl = true)
    (hflight : u.port.inFlight = s.port.inFlight) : Begun s (settle u) k := by
  obtain ⟨hcurrent, hnothing, -, hupdate, hstatus, hslot, hconfig, hscan, hnoScan⟩ := h
  have hgrant : ((Machine.settle u).port.claimControl = true ∧ (Machine.settle u).status = u.status) ∨
      ((Machine.settle u).port.claimControl = false ∧ (Machine.settle u).inFlightFor .control = true ∧
        s.port.inFlight = none ∧ (Machine.settle u).status = (captureControl u).status) := by
    have hstands := arbitrate_control_claim u hclaim (by simp [hcurrent])
    rw [settle_port, settle_status, State.inFlightFor, settle_port]
    rcases arbitrate_cases u with ⟨he, -⟩ | ⟨-, -, he⟩ | ⟨hfree, -, he⟩ | ⟨-, -, he⟩ <;> rw [he] at hstands ⊢
    · exact .inl ⟨hclaim, rfl⟩
    · exact .inl ⟨by rw [grantHost_port]; exact hclaim, by simp⟩
    · refine .inr ⟨by rw [grantControl_port], hstands.resolve_left (by simp [grantControl_port]), hflight ▸ hfree, rfl⟩
    · exact .inl ⟨hclaim, rfl⟩
  refine ⟨by rw [settle_control, hcurrent], by rwa [settle_control], ?_, ?_, ?_, by simpa using hslot,
    by simpa using hconfig, by simpa using hscan, by simpa using hnoScan⟩
  · rcases hgrant with ⟨hstands, -⟩ | ⟨-, hgranted, hfree, -⟩
    · exact .inl hstands
    · exact .inr ⟨hgranted, hfree⟩
  · rintro kind rfl
    obtain ⟨hreads, hsnapshot, harea, hlive⟩ := hupdate kind rfl
    rw [hclaim] at hlive
    rcases hgrant with ⟨hstands, he⟩ | ⟨hspent, -, -, he⟩
    · rw [he, hstands]
      exact ⟨hreads, hsnapshot, harea, hlive⟩
    · have hcapture : (captureControl u).status = u.captured kind := by
        rw [captureControl, hcurrent]
        exact congrArg State.status (captureUpdate_eq u kind)
      rw [he, hspent, hcapture]
      exact ⟨hreads, hsnapshot, (if_neg (by omega)).trans harea, if_pos hnothing.1⟩
  · intro hk
    rw [settle_status_of_noUpdate fun kind hx => hk kind (by simpa [hcurrent] using hx)]
    exact hstatus hk

/-! ### A cycle that is not the last of its sequence (R112, R113) -/

/-- The sequence in progress goes on, with its next cycle claimed and nothing else done but what the cycle keeps. -/
structure GoesOn (s u : State) (m : MemCycle) : Prop where
  kept    : WorkKept (landCycle s m) u
  around  : Surroundings s u
  command : SameCommand s u
  txn     : u.txn = s.txn
  journal : u.journal = s.journal
  tracker : u.tracker = s.tracker
  engine  : u.engine = s.engine
  reports : SameReports s u
  current : u.control.current = s.control.current
  waiting : u.control.waiting = s.control.waiting
  claim   : u.port.claimControl = true

theorem goesOn_continueSequence (s : State) (m : MemCycle) (k : Sequence) :
    GoesOn s (continueSequence (sequenceKeeps (landCycle s m) k (cycleByte s m))) m := by
  obtain ⟨k1, k2, ⟨k3, k4, k5⟩, k6, k7, k8, k9, k10, k11⟩ := workKept_freed s m k
  obtain ⟨a1, a2, a3, a4, a5, a6, a7⟩ := surroundings_freed s m k
  obtain ⟨c1, c2, c3, c4⟩ := sameCommand_freed s m k
  obtain ⟨-, -, -, -, -, -, hcurrent, hwaiting, -⟩ := sequenceKeeps_items (landCycle s m) k (cycleByte s m)
  have hreports := reports_sequenceKeeps (landCycle s m) k (cycleByte s m)
  rw [reports_landCycle] at hreports
  exact ⟨⟨k1, k2, ⟨k3, k4, k5⟩, k6, k7, k8, k9, k10, k11⟩, ⟨a1, a2, a3, a4, a5, a6, a7⟩, ⟨c1, c2, c3, c4⟩,
    freed_txn s m k, freed_journal s m k, freed_tracker s m k, freed_engine s m k,
    ⟨congrArg Reports.queue hreports, congrArg Reports.dropped hreports, congrArg Reports.refused hreports,
      congrArg Reports.expired hreports, congrArg Reports.startFaults hreports⟩,
    hcurrent.trans (by simp), hwaiting.trans (by simp), rfl⟩

theorem goesOn_setControl (s : State) (m : MemCycle) {x : ControlUnit} (hcurrent : x.current = s.control.current)
    (hwaiting : x.waiting = s.control.waiting) : GoesOn s ((landCycle s m).setControl x).claimControl m :=
  ⟨⟨rfl, fun _ => rfl, ⟨rfl, rfl, rfl⟩, rfl, rfl, rfl, rfl, rfl, rfl⟩, by constructor <;> simp [State.claimControl],
    by constructor <;> simp [State.claimControl], by simp [State.claimControl], by simp [State.claimControl],
    by simp [State.claimControl], by simp [State.claimControl], by constructor <;> simp [State.claimControl],
    hcurrent, hwaiting, rfl⟩

/-- What the close of the step leaves of it. -/
theorem GoesOn.settle (h : GoesOn s u m) (hmem : MemoryLaw s) (hk : s.control.current = some k) :
    let t := settle u
    WorkFrame s t m ∧ t.sequences = s.sequences ∧ t.control.current = some k ∧
      (t.port.claimControl = true ∨ t.inFlightFor .control = true) ∧ t.txn = s.txn ∧ t.journal = s.journal ∧
      t.tracker = s.tracker ∧ t.engine = s.engine ∧ SameReports s t ∧ SameCommand s t ∧ Surroundings s t := by
  have hclaim := arbitrate_control_claim u h.claim (by simp [h.current, hk])
  refine ⟨(h.kept.trans (workKept_settle u)).workFrame hmem, ?_, ?_, by simpa [State.inFlightFor] using hclaim,
    by simp [h.txn], by simp [h.journal], by simp [h.tracker], by simp [h.engine],
    h.reports.trans (sameReports_settle u), h.command.trans (sameCommand_settle u),
    h.around.trans (surroundings_settle u)⟩
  · simp [State.sequences, h.current, h.waiting]
  · rw [settle_control, h.current, hk]

/-- Of the control unit a cycle keeps at most a byte in the buffer. -/
theorem sequenceKeeps_control (s : State) (k : Sequence) (b : Byte) : (sequenceKeeps s k b).control =
    { s.control with buffer := (sequenceKeeps s k b).control.buffer } := by
  cases k <;> simp [sequenceKeeps, configKeeps, configWrote, updateCycleEffects_eq]

theorem sequenceKeeps_status (s : State) {k : Sequence} (h : ∀ kind, k ≠ .update kind) (b : Byte) :
    (sequenceKeeps s k b).status = s.status := by
  cases k with
  | update kind => exact absurd rfl (h kind)
  | _ => rfl

theorem sequenceKeeps_config (s : State) {k : Sequence} (h : ∀ x, k ≠ .configRead x ∧ k ≠ .configWrite x) (b : Byte) :
    (sequenceKeeps s k b).config = s.config := by
  cases k with
  | configRead x => exact absurd rfl (h x).1
  | configWrite x => exact absurd rfl (h x).2
  | update kind => simp [sequenceKeeps, updateCycleEffects_eq]
  | _ => rfl

/-- The four-byte field, most significant byte first. -/
theorem longAt_zero (l : List Byte) : longAt l 0 = byteAt l 3 ++ byteAt l 2 ++ byteAt l 1 ++ byteAt l 0 := by
  exact (BitVec.append_assoc (x₁ := byteAt l 3 ++ byteAt l 2) (x₂ := byteAt l 1) (x₃ := byteAt l 0)).symm

/-- The scan goes on (R175): its record is not whole and the byte is kept, or the record is accepted and the next
position is to be read. -/
theorem scanGoesOn_continues {bytes : List Byte} (hr : ¬ScanRejects s bytes)
    (hend : ¬(ScanAccepts s bytes ∧ s.control.scanPos + 1 = s.journal.capacity)) :
    ∃ x, scanGoesOn s bytes = (s.setControl x).claimControl ∧ x.current = s.control.current ∧
      x.waiting = s.control.waiting ∧ x.done = s.control.done ∧
      (¬ScanAccepts s bytes → x.buffer = bytes ∧ x.scanPos = s.control.scanPos ∧ x.scanLink = s.control.scanLink) ∧
      (ScanAccepts s bytes → x.buffer = [] ∧ x.scanPos = s.control.scanPos + 1 ∧
        x.scanLink = halfAt bytes (s.geometry.granule + 8)) := by
  cases hv : scanVerdict s bytes with
  | reject => exact absurd ((scanVerdict_reject_iff s bytes).mp hv) hr
  | more =>
    have hnot : ¬ScanAccepts s bytes := by simp [← scanVerdict_accept_iff, hv]
    exact ⟨{ s.control with buffer := bytes }, by simp only [scanGoesOn, hv], rfl, rfl, rfl,
      fun _ => ⟨rfl, rfl, rfl⟩, fun ha => absurd ha hnot⟩
  | accept =>
    have ha := (scanVerdict_accept_iff s bytes).mp hv
    have hne : (scanAccepts s bytes).control.scanPos ≠ (scanAccepts s bytes).journal.capacity := fun h => hend ⟨ha, h⟩
    refine ⟨(scanAccepts s bytes).control, ?_, rfl, rfl, rfl, absurd ha, fun _ => ⟨rfl, rfl, rfl⟩⟩
    simp only [scanGoesOn, hv]
    exact if_neg hne

/-- The end of a scan's cycle that leaves the scan going on, in the terms of the state before it. -/
theorem exec_scanGoesOn (h : SequenceDue s .scan m) :
    exec .memoryCycleComplete s = .next (settle (scanGoesOn (landCycle s m) (s.control.buffer ++ [cycleByte s m]))) := by
  rw [exec_memoryCycleComplete_due h.cycle]
  simp [claimantGoesOn, controlCycleEnds, h.current]

end Sys2Proof.Machine

namespace Sys2Proof

open Machine

/-- Settles O45: a beginning through `Begun.settle`, and a cycle that is not the last through `GoesOn.settle`, with the
scan's two ways of going on apart from the other sequences. -/
theorem controlUnitBeginsTheLongestWaiting : Obligations.ControlUnitBeginsTheLongestWaiting := by
  refine ⟨fun s k rest hreset hcurrent hwaiting => ?_, fun s k => ⟨fun hcurrent hwaiting => ?_, fun hbusy => ?_⟩, ?_⟩
  · let v := s.setControl { s.control with waiting := rest }
    have hgo : exec .controlSequenceStart s = .next (settle (beginSequence v k)) := by
      simp [exec, execControlSequenceStart, unlessResetting, hreset, hcurrent, hwaiting, v]
    obtain ⟨-, -, hrest, hclaim⟩ := beginSequence_spec v k
    obtain ⟨h1, h2, h3, h4, h5, h6, h7, h8, h9⟩ :=
      (begun_beginSequence v k).settle hclaim (beginSequence_port_inFlight v k)
    refine ⟨_, hgo, ⟨h1, h2, h3, h4, h5, h6, h7, h8, h9⟩, by rw [settle_control, hrest]; rfl, by simp [v], by simp [v],
      by simp [v], by simp [v], by constructor <;> simp [v], by constructor <;> simp [v], by constructor <;> simp [v],
      fun a => by simp [v], fun hc => ?_⟩
    rw [settle_host_of_none _ (by simpa [v] using hc)]
    simp [v]
  · rw [requestSequence_idle s k hcurrent hwaiting]
    exact ⟨begun_beginSequence s k, (beginSequence_spec s k).2.2.1.trans hwaiting⟩
  · exact requestSequence_busy s k (hbusy.imp_left Option.isSome_iff_ne_none.mpr)
  · intro s m k h b bytes G R i hnotLast
    by_cases hscan : k = .scan
    · subst hscan
      obtain ⟨hreject, hend⟩ := hnotLast
      obtain ⟨x, hgoes, hcurrent, hwaiting, hdone, hmore, haccept⟩ := scanGoesOn_continues (s := landCycle s m)
        (bytes := bytes) (by simpa [ScanRejects] using hreject) (by simpa [ScanAccepts] using hend)
      have hgo := goesOn_setControl s m (x := x) (by simpa using hcurrent) (by simpa using hwaiting)
      have hcontrol : (settle ((landCycle s m).setControl x).claimControl).control = x := by
        simp [State.claimControl]
      obtain ⟨h1, h2, h3, h4, h5, h6, h7, h8, h9, h10, h11⟩ := hgo.settle h.cycle.canon h.current
      refine ⟨_, hgoes ▸ exec_scanGoesOn h, h1, h2, h3, h4, h5, h6, h7, h8, h9, h10, h11, absurd rfl, nofun, nofun, nofun,
        fun _ => ?_, fun _ => ?_, fun _ => ?_, nofun⟩
      · simp [State.claimControl]
      · rw [hcontrol]
        exact ⟨by simpa using hdone, by simpa [ScanAccepts] using hmore, by simpa [ScanAccepts] using haccept⟩
      · rw [settle_status_of_noUpdate fun kind => by rw [hgo.current, h.current]; nofun]
        simp [State.claimControl]
    · have hlast : sequenceAtLast s k = false := by
        cases k with
        | scan => exact absurd rfl hscan
        | voidMark => exact hnotLast.elim
        | update kind =>
          cases kind <;> simpa [sequenceAtLast, updateLength, UpdateKind.length] using hnotLast
        | _ => simpa [sequenceAtLast] using hnotLast
      have hgo := goesOn_continueSequence s m k
      have hexec : exec .memoryCycleComplete s = .next (settle (continueSequence
          (sequenceKeeps (landCycle s m) k (cycleByte s m)))) := by
        rw [exec_memoryCycleComplete_due h.cycle,
          claimantGoesOn_continues (by simpa using h.current) hscan (by rwa [sequenceAtLast_landCycle])]
      have hcontrol := sequenceKeeps_control (landCycle s m) k (cycleByte s m)
      obtain ⟨h1, h2, h3, h4, h5, h6, h7, h8, h9, h10, h11⟩ := hgo.settle h.cycle.canon h.current
      refine ⟨_, hexec, h1, h2, h3, h4, h5, h6, h7, h8, h9, h10, h11, fun _ => ?_, fun hk => ?_, fun slot hk => ?_,
        fun slot hk => ?_, fun hk => ?_, fun hk => absurd hk hscan, fun hk => ?_, fun kind hk => ?_⟩
      · rw [settle_control, continueSequence, hcontrol]
        simp [State.claimControl, i]
      · subst hk
        simp [continueSequence, sequenceKeeps, headerReadBytes, bytes, b, cycleByte_eq]
      · subst hk
        simp [sequenceKeeps, configKeeps, b, cycleByte_eq]
      · subst hk
        simp [sequenceKeeps, configWrote]
      · simp [sequenceKeeps_config _ hk]
      · rw [settle_status_of_noUpdate fun kind hx => hk kind ?_]
        · simp [sequenceKeeps_status _ hk]
        · rwa [hgo.current, h.current, Option.some.injEq] at hx
      · subst hk
        refine ⟨?_, ?_, ?_⟩
        · simp [continueSequence, sequenceKeeps, updateCycleEffects_eq, bytes, b, cycleByte_eq, R, i]
        · simp [sequenceKeeps, updateCycleEffects_eq, State.numberAfter, longAt_zero, bytes, b, cycleByte_eq, R, i]
        · simp [State.attn, sequenceKeeps, updateCycleEffects_eq, State.attentionNext, R, i]

end Sys2Proof
end
